-- ==== Sys2Proof/Word.lean ====
section
/-! DEFINITION. The data of 00_scope.md: bytes (R14), words, blocks and matrices (R16), the round-key file's
shape (R37) and the 17-bit transaction word (R100). -/

namespace Sys2Proof

/-- R14: 8 bits, unsigned, bit 0 the least significant. -/
abbrev Byte := BitVec 8

/-- R16: a Word is `w[0..3]`; a column of a matrix read from row 0 to row 3. -/
abbrev Word := Vector Byte 4

/-- R16: a Block is `b[0..15]`. -/
abbrev Block := Vector Byte 16

/-- R16: a Matrix is `m[r][c]`, row `r` and column `c` in 0..3. -/
abbrev Matrix := Vector (Vector Byte 4) 4

/-- R37: the key schedule `RK[0..10]`. -/
abbrev Schedule := Vector Matrix 11

/-- R100: a bus transaction `T`; bit 16 is `W`, bits 15:8 are `ADDR`, bits 7:0 are `DATA`. -/
abbrev Txn := BitVec 17

end Sys2Proof
end

