-- ==== Sys2Proof/Syntax.lean ====
section
/-! DEFINITION. The instructions: one constructor per row of spec/opcode_table.json. -/

namespace Sys2Proof

/-- The twelve commands of R104 (none has an operand field, R103) and the two bus transactions of R290 and R291. -/
inductive Instr where
  | nop            -- CMD8 0x00, R297
  | expandKey      -- CMD8 0x01, R216
  | encrypt        -- CMD8 0x02, R245
  | loadState      -- CMD8 0x10, R165
  | subBytes       -- CMD8 0x11, R188
  | shiftRows      -- CMD8 0x12, R189
  | mixColumns     -- CMD8 0x13, R190
  | addRoundKey    -- CMD8 0x14, R191
  | storeState     -- CMD8 0x15, R166
  | nextStage      -- CMD8 0x16, R250
  | gfMul          -- CMD8 0x20, R140
  | sboxLookup     -- CMD8 0x21, R141
  | busRead (addr : Byte)          -- TXN17, W = 0, R290
  | busWrite (addr data : Byte)    -- TXN17, W = 1, R291
  deriving DecidableEq, Repr

/-- R18: a command is one write of an opcode byte to CMD; the other two instructions are bus transactions. -/
def Instr.isCommand : Instr → Bool
  | .busRead _ => false
  | .busWrite _ _ => false
  | .nop => true
  | .expandKey => true
  | .encrypt => true
  | .loadState => true
  | .subBytes => true
  | .shiftRows => true
  | .mixColumns => true
  | .addRoundKey => true
  | .storeState => true
  | .nextStage => true
  | .gfMul => true
  | .sboxLookup => true

end Sys2Proof
end

