-- ==== Sys2Proof/WellFormed.lean ====
section
/-! DEFINITION. Which terms of `Instr` are the reading of a word.

DESIGN CHOICE (log entry 8): a write of a defined opcode to CMD is read as that command, so the term
`busWrite 0x50 op` with `op` defined is no word's reading. It still has its meaning (R291, R296). -/

namespace Sys2Proof

/-- R52: CMD is at host address 0x50. -/
def cmdAddress : Byte := 0x50

/-- R104: the twelve defined opcode bytes. -/
def definedOpcodes : List Byte :=
  [0x00, 0x01, 0x02, 0x10, 0x11, 0x12, 0x13, 0x14, 0x15, 0x16, 0x20, 0x21]

/-- The one check: a bus write is not the second name of a command (R102, R104). -/
def Instr.wellFormed : Instr → Bool
  | .busWrite addr data => !(addr == cmdAddress && definedOpcodes.contains data)
  | .busRead _ => true
  | .nop => true
  | .expandKey => true
  | .encrypt => true
  | .loadState => true
  | .subBytes => true
  | .shiftRows => true
  | .mixColumns => true
  | .addRoundKey => true
  | .storeState => true
  | .nextStage => true
  | .gfMul => true
  | .sboxLookup => true

end Sys2Proof
end

