-- ==== Sys2Proof/Decode.lean ====
section
/-! DEFINITION. Decoding and encoding (30_encoding.md). Both decoders are total and reject by name. -/

namespace Sys2Proof

/-- Why a command byte is no command: R105, one outcome for all 244 illegal bytes. -/
inductive CommandError where
  | illegalCommand (op : Byte)
  deriving DecidableEq, Repr

/-- Why a transaction word is no transaction: R100, I22, a read word with DATA other than 0. -/
inductive DecodeError where
  | nonCanonicalRead (word : Txn)
  deriving DecidableEq, Repr

/-- R102, R104: format CMD8, the whole byte is matched. -/
def decodeCommand (op : Byte) : Except CommandError Instr :=
  match op with
  | 0x00#8 => .ok .nop
  | 0x01#8 => .ok .expandKey
  | 0x02#8 => .ok .encrypt
  | 0x10#8 => .ok .loadState
  | 0x11#8 => .ok .subBytes
  | 0x12#8 => .ok .shiftRows
  | 0x13#8 => .ok .mixColumns
  | 0x14#8 => .ok .addRoundKey
  | 0x15#8 => .ok .storeState
  | 0x16#8 => .ok .nextStage
  | 0x20#8 => .ok .gfMul
  | 0x21#8 => .ok .sboxLookup
  | _ => .error (.illegalCommand op)

/-- R100: field `W`, bit 16. -/
def txnWrite (w : Txn) : Bool := w.getLsbD 16

/-- R100: field `ADDR`, bits 15:8. -/
def txnAddr (w : Txn) : Byte := w.extractLsb' 8 8

/-- R100: field `DATA`, bits 7:0. -/
def txnData (w : Txn) : Byte := w.extractLsb' 0 8

/-- R100: `T = (W << 16) | (ADDR << 8) | DATA`. -/
def txnOf (write : Bool) (addr data : Byte) : Txn :=
  ((BitVec.ofBool write).zeroExtend 17 <<< 16) ||| (addr.zeroExtend 17 <<< 8) ||| data.zeroExtend 17

/-- R100: a read word with DATA other than 0 is not canonical. -/
def txnCanonical (w : Txn) : Bool := txnWrite w || txnData w == 0

/-- R100, R102: the instruction a transaction word stands for. A write to CMD is the command its DATA byte
names; a write of an undefined byte to CMD stays a bus write, whose meaning raises IllegalCommand (R105). -/
def decode (w : Txn) : Except DecodeError Instr :=
  if txnWrite w then
    if txnAddr w = cmdAddress then
      match decodeCommand (txnData w) with
      | .ok i => .ok i
      | .error _ => .ok (.busWrite cmdAddress (txnData w))
    else .ok (.busWrite (txnAddr w) (txnData w))
  else if txnData w = 0 then .ok (.busRead (txnAddr w))
  else .error (.nonCanonicalRead w)

/-- R104: the opcode byte of a command; none for a bus transaction. -/
def encodeCommand : Instr → Option Byte
  | .nop => some 0x00
  | .expandKey => some 0x01
  | .encrypt => some 0x02
  | .loadState => some 0x10
  | .subBytes => some 0x11
  | .shiftRows => some 0x12
  | .mixColumns => some 0x13
  | .addRoundKey => some 0x14
  | .storeState => some 0x15
  | .nextStage => some 0x16
  | .gfMul => some 0x20
  | .sboxLookup => some 0x21
  | .busRead _ => none
  | .busWrite _ _ => none

/-- R100, R108: the transaction word of an instruction; a command's is `WR 0x50, opcode`. -/
def encode (i : Instr) : Txn :=
  match encodeCommand i, i with
  | some op, _ => txnOf true cmdAddress op
  | none, .busRead addr => txnOf false addr 0
  | none, .busWrite addr data => txnOf true addr data
  | none, _ => 0

/-- The word the table gives a row, as a transaction (log entry 9): a row of at most 8 bits is a command
byte, which reaches the machine as `WR 0x50, byte`; a longer row is the 17-bit word itself. -/
def tableTxn (nbits w : Nat) : Txn :=
  if nbits ≤ 8 then txnOf true cmdAddress (BitVec.ofNat 8 w) else BitVec.ofNat 17 w

/-- The instruction the decoders read from a word numbered as spec/opcode_table.json numbers it. -/
def decodeTableWord (nbits w : Nat) : Option Instr :=
  if nbits ≤ 8 then
    if w < 2 ^ 8 then (decodeCommand (BitVec.ofNat 8 w)).toOption else none
  else if w < 2 ^ 17 then (decode (BitVec.ofNat 17 w)).toOption
  else none

end Sys2Proof
end

