-- ==== Sys2Proof/Config.lean ====
section
/-! DEFINITION. What the spec leaves to the platform or leaves free. No constant here has a body: nothing can be
proved of its value. -/

namespace Sys2Proof

/-- FREE VALUE (log entry 2). R37, R350, I7: RK keeps an unspecified value at reset; the argument is the number of
the run-time reset. -/
opaque Config.rkAfterReset : Nat → Schedule

/-- OPEN PARAMETER (log entry 11). R13, R380, I13: `LAT(op)` in clock cycles. It takes the opcode alone, since it must
not depend on data (R381). The model is untimed and no definition reads it. -/
opaque Config.latency : Byte → Nat

/-- OPEN PARAMETER (log entry 12). R74, I19: `AES_BASE`, where the block sits in the host's address map. -/
opaque Config.aesBase : Nat

end Sys2Proof
end

