-- ==== Sys2Proof/Machine/State.lean ====
section
/-! DEFINITION. The state of one AES128-CORE instance (10_state.md), the events it emits and receives, the reasons a
step can stop, and the state after reset. -/

namespace Sys2Proof.Machine

/-- R274: the eight event kinds; no other kind value is emitted. Their codes are `kindCode`. -/
inductive EventKind where
  | subBytes      -- 0x01
  | shiftRows     -- 0x02
  | mixColumns    -- 0x03
  | addRoundKey   -- 0x04
  | ksRotWord     -- 0x10
  | ksSubWord     -- 0x11
  | ksRcon        -- 0x12
  | ksRoundKey    -- 0x13
  deriving DecidableEq, Repr

/-- R273: one trace event. A matrix travels as 16 bytes in `decode` order, a word as 4 bytes. -/
structure Event where
  kind : EventKind
  index : Byte
  before : List Byte
  after : List Byte
  deriving DecidableEq, Repr

/-- R301: an event as the trace port's signals present it. -/
structure TracePort where
  kind : BitVec 8
  index : BitVec 8
  len : BitVec 5
  before : BitVec 128
  after : BitVec 128
  deriving DecidableEq, Repr

/-- R310: the errors a command can raise. InvalidByteValue (0x03) is never raised (R313), so it is no constructor. -/
inductive ErrorCode where
  | invalidBlockLength
  | invalidKeyLength
  | illegalCommand
  | noSchedule
  | badRoundIndex
  | sequence
  deriving DecidableEq, Repr

/-- R72: what a host address names: one byte of a register, or nothing (R73). -/
inductive Reg where
  | key (i : Fin 16)
  | din (i : Fin 16)
  | dout (i : Fin 16)
  | stateView (i : Fin 16)
  | rkwin (i : Fin 16)
  | cmd
  | status
  | errcode
  | ctrl
  | klen
  | blen
  | rksel
  | stage
  | gfA
  | gfB
  | gfP
  | sboxIn
  | sboxOut
  | reserved
  deriving DecidableEq, Repr

/-- One thing the outside world does to the block, in the order the platform serialises them (R83, R89). -/
inductive HostEvent where
  /-- R292: a bus transaction that completes. -/
  | access (word : Txn)
  /-- R350: `rst` = 1 at one or more clock edges in a row, with no access presented. Holding it longer changes nothing
  more, so the whole time it is held is one event. -/
  | reset
  /-- R352: an access whose command is abandoned because reset is asserted while it runs. -/
  | abandoned (word : Txn)
  /-- R352, I18: an access presented while reset is asserted, which the host must not do (R300). -/
  | accessInReset (word : Txn)
  deriving DecidableEq, Repr

/-- R30: the complete architectural state, with exactly R30's fields in R30's order. -/
structure Arch where
  /-- R33: the cipher key, block order. -/
  key : Block
  /-- R34: the plaintext block. -/
  din : Block
  /-- R35: the output block. -/
  dout : Block
  /-- R36: the State Matrix. -/
  state : Matrix
  /-- R37: the key schedule `RK[0..10]`. -/
  rk : Schedule
  /-- R38: key schedule valid, STATUS bit 0. -/
  kv : Bool
  /-- R39: sticky error flag, STATUS bit 1. -/
  err : Bool
  /-- R41: the result code of the most recent command. -/
  errcode : Byte
  /-- R40: CTRL bit 0. -/
  traceEn : Bool
  /-- R42: declared length of the key buffer. -/
  klen : Byte
  /-- R43: declared length of the plaintext buffer. -/
  blen : Byte
  /-- R45: the selected round key. -/
  rksel : Byte
  /-- R44: the next pipeline stage, 0..11; 11 means complete. -/
  stage : Fin 12
  /-- R47. -/
  gfA : Byte
  /-- R48. -/
  gfB : Byte
  /-- R49. -/
  gfP : Byte
  /-- R50. -/
  sboxIn : Byte
  /-- R51. -/
  sboxOut : Byte
  /-- R270: every event emitted since reset, in emission order; no command reads it. -/
  trace : List Event
  deriving DecidableEq, Repr

/-- The architectural state together with the host's side of the interface. -/
structure State extends Arch where
  /-- R100, R299: the host's events still to come, oldest first (log entry 3). -/
  pending : List HostEvent
  /-- R292, R299: the bytes completed reads returned, oldest first (log entry 5). -/
  responses : List Byte
  /-- MODEL'S OWN COUNTER (log entry 2): how many run-time resets there have been. -/
  resets : Nat
  deriving DecidableEq, Repr

/-- Why the machine stops. No instruction raises a fault (R299, R322). -/
inductive Fault where
  /-- Raised by `deliver` for an access while reset is asserted: R352 gives it no transition and I18 says stuck.
  SAFE: the model stops where the spec claims nothing. -/
  | accessDuringReset
  deriving DecidableEq, Repr

/-- Why the machine refuses. No meaning of an instruction refuses. -/
inductive Refusal where
  /-- Raised by an arm of `exec` that has no meaning yet (there is none). SAFE. -/
  | notModelled (mnemonic : String)
  /-- Raised by `deliver` for a read word with DATA other than 0: R100 and I22 say a decoder refuses it. SAFE. -/
  | nonCanonicalRead (word : Txn)
  deriving DecidableEq, Repr

/-- R56, R350: the state after reset. RK is unspecified there: all zero is this model's DESIGN CHOICE (log entry 1). -/
def State.reset : State where
  key := Vector.replicate 16 0
  din := Vector.replicate 16 0
  dout := Vector.replicate 16 0
  state := Vector.replicate 4 (Vector.replicate 4 0)
  rk := Vector.replicate 11 (Vector.replicate 4 (Vector.replicate 4 0))
  kv := false
  err := false
  errcode := 0
  traceEn := false
  klen := 0
  blen := 0
  rksel := 0
  stage := 0
  gfA := 0
  gfB := 0
  gfP := 0
  sboxIn := 0
  sboxOut := 0
  trace := []
  pending := []
  responses := []
  resets := 0

end Sys2Proof.Machine
end

