-- ==== Sys2Proof/Machine/Flags.lean ====
section
/-! DEFINITION. The status and control bytes, and the error codes (10_state.md R38 to R41, 60_exceptions.md R310). -/

namespace Sys2Proof.Machine

/-- R310: the code written to ERRCODE by a command that completes. -/
def okByte : Byte := 0x00

/-- R310: the code of each error. -/
def errorByte : ErrorCode → Byte
  | .invalidBlockLength => 0x01
  | .invalidKeyLength => 0x02
  | .illegalCommand => 0x04
  | .noSchedule => 0x05
  | .badRoundIndex => 0x06
  | .sequence => 0x07

/-- R39, R290: STATUS reads `(ERR << 1) | KV`; bits 7:2 read 0. -/
def statusByte (err kv : Bool) : Byte :=
  ((BitVec.ofBool err).zeroExtend 8 <<< 1) ||| (BitVec.ofBool kv).zeroExtend 8

/-- R39: ERR after a host write of `d` to STATUS; only data bit 1 = 1 clears it. -/
def errAfterStatusWrite (err : Bool) (d : Byte) : Bool :=
  if d.getLsbD 1 then false else err

/-- R40, R290: CTRL reads TRACE_EN in bit 0; bits 7:1 read 0. -/
def ctrlByte (traceEn : Bool) : Byte := (BitVec.ofBool traceEn).zeroExtend 8

/-- R40: TRACE_EN after a host write of `d` to CTRL; bits 7:1 are ignored. -/
def traceEnAfterCtrlWrite (d : Byte) : Bool := d.getLsbD 0

end Sys2Proof.Machine
end

