-- ==== Sys2Proof/Machine/Operands.lean ====
section
/-! DEFINITION. Operand forms: the address decode of the register map (R72), the codec between a Block and a Matrix
(R160, R161), columns (R16), and the round key RKSEL selects (R45). -/

namespace Sys2Proof.Machine

/-- `v[7:4]` of a byte as an index (R14, R133). -/
def highNibble (x : Byte) : Fin 16 := (x.extractLsb' 4 4).toFin

/-- `v[3:0]` of a byte as an index (R14, R133). -/
def lowNibble (x : Byte) : Fin 16 := (x.extractLsb' 0 4).toFin

/-- R72: the normative address decode. The windows are 16-aligned, so the offset is the low nibble. -/
def regAt (a : Byte) : Reg :=
  match highNibble a, lowNibble a with
  | 0, i => .key i
  | 1, i => .din i
  | 2, i => .dout i
  | 3, i => .stateView i
  | 4, i => .rkwin i
  | 5, 0 => .cmd
  | 5, 1 => .status
  | 5, 2 => .errcode
  | 5, 3 => .ctrl
  | 5, 4 => .klen
  | 5, 5 => .blen
  | 5, 6 => .rksel
  | 5, 7 => .stage
  | 5, 8 => .gfA
  | 5, 9 => .gfB
  | 5, 10 => .gfP
  | 5, 11 => .sboxIn
  | 5, 12 => .sboxOut
  | _, _ => .reserved

/-- The matrix whose entry in row `r` and column `c` is `f r c`. -/
def matrixOf (f : Fin 4 → Fin 4 → Byte) : Matrix :=
  Vector.ofFn fun r => Vector.ofFn fun c => f r c

/-- R160: `encode(b)[r][c] = b[r + 4*c]`. -/
def encodeBlock (b : Block) : Matrix :=
  matrixOf fun r c => b[r.val + 4 * c.val]

/-- R161: `decode(m)[i] = m[i mod 4][i div 4]`. -/
def decodeMatrix (m : Matrix) : Block :=
  Vector.ofFn fun i => m[i.val % 4][i.val / 4]

/-- R16: column `c` of `m` is the word `[m[0][c], m[1][c], m[2][c], m[3][c]]`. -/
def column (m : Matrix) (c : Fin 4) : Word :=
  Vector.ofFn fun r => m[r][c]

/-- The matrix whose columns are the four words (R212). -/
def fromColumns (n0 n1 n2 n3 : Word) : Matrix :=
  matrixOf fun r c => (#v[n0, n1, n2, n3])[c][r]

/-- R45: `RK[RKSEL]`, none when RKSEL > 10. -/
def selectedKey (s : State) : Option Matrix := s.rk[s.rksel.toNat]?

end Sys2Proof.Machine
end

