-- ==== Sys2Proof/Machine/Trace.lean ====
section
/-! DEFINITION. The instrumentation trace port (45_instrumentation.md). -/

namespace Sys2Proof.Machine

/-- R274: the code of each kind. -/
def kindCode : EventKind → Byte
  | .subBytes => 0x01
  | .shiftRows => 0x02
  | .mixColumns => 0x03
  | .addRoundKey => 0x04
  | .ksRotWord => 0x10
  | .ksSubWord => 0x11
  | .ksRcon => 0x12
  | .ksRoundKey => 0x13

/-- R187: the index of a stepwise command that is not part of a numbered stage. -/
def noIndex : Byte := 0xFF

/-- R273: an event about matrices, each as 16 bytes in `decode` order. -/
def matrixEvent (kind : EventKind) (index : Byte) (before after : Matrix) : Event :=
  { kind, index, before := (decodeMatrix before).toList, after := (decodeMatrix after).toList }

/-- R273: an event about words, each as 4 bytes, rows 0 to 3. -/
def wordEvent (kind : EventKind) (index : Byte) (before after : Word) : Event :=
  { kind, index, before := before.toList, after := after.toList }

/-- R271, R272: when TRACE_EN = 1, append the events, in their order, to the end of TRACE. -/
def emitAll (es : List Event) (s : State) : State :=
  { s with trace := s.trace ++ (if s.traceEn then es else []) }

/-- R301: byte `i` on bits 8i+7..8i of the port; bytes past the end are 0. -/
def portBytes (bs : List Byte) : BitVec 128 :=
  bs.foldr (fun b acc => (acc <<< 8) ||| b.zeroExtend 128) 0

/-- R301: the signals that present an event. -/
def portOf (e : Event) : TracePort :=
  { kind := kindCode e.kind
    index := e.index
    len := BitVec.ofNat 5 e.before.length
    before := portBytes e.before
    after := portBytes e.after }

end Sys2Proof.Machine
end

