-- ==== Sys2Proof/Machine/Ops.lean ====
section
/-! DEFINITION. The named operations over the registers: completing a command, raising an error (the one shared
operation; there is no return from it, R319), reading and writing a register, and reset. -/

namespace Sys2Proof.Machine

/-- A command that completes writes ERRCODE = 0x00 and leaves ERR as it is (R41, R319). -/
def complete (s : State) : State := { s with errcode := okByte }

/-- R317: `raise Error(code)`: ERRCODE gets the code, ERR gets 1, and nothing else changes. -/
def raiseError (e : ErrorCode) (s : State) : State :=
  { s with errcode := errorByte e, err := true }

/-- `STATE <- m`. -/
def setState (m : Matrix) (s : State) : State := { s with state := m }

/-- `STAGE <- n`. -/
def setStage (n : Fin 12) (s : State) : State := { s with stage := n }

/-- `RK[0..10] <- rk; KV <- 1` (R216: all 11 entries together). -/
def setSchedule (rk : Schedule) (s : State) : State := { s with rk := rk, kv := true }

/-- R46: byte `i` of the RKWIN window, computed at the time of the read. -/
def rkwinByte (s : State) (i : Fin 16) : Byte :=
  if s.kv then
    match selectedKey s with
    | some k => (decodeMatrix k)[i]
    | none => 0
  else 0

/-- R290: `rd`, by the register the address names. -/
def readReg (s : State) : Reg → Byte
  | .key i => s.key[i]
  | .din i => s.din[i]
  | .dout i => s.dout[i]
  | .stateView i => (decodeMatrix s.state)[i]
  | .rkwin i => rkwinByte s i
  | .cmd => 0
  | .status => statusByte s.err s.kv
  | .errcode => s.errcode
  | .ctrl => ctrlByte s.traceEn
  | .klen => s.klen
  | .blen => s.blen
  | .rksel => s.rksel
  | .stage => BitVec.ofNat 8 s.stage.val
  | .gfA => s.gfA
  | .gfB => s.gfB
  | .gfP => s.gfP
  | .sboxIn => s.sboxIn
  | .sboxOut => s.sboxOut
  | .reserved => 0

/-- R290: `rd(s, a)`. -/
def readRegister (s : State) (a : Byte) : Byte := readReg s (regAt a)

/-- R291: `wr`, by the register the address names, for every register but CMD, which stores nothing (R52); the
command a CMD write starts is `execBusWrite`'s to run. -/
def writeReg (d : Byte) (s : State) : Reg → State
  | .key i => { s with key := s.key.set i d, kv := false }
  | .din i => { s with din := s.din.set i d }
  | .dout _ => s
  | .stateView _ => s
  | .rkwin _ => s
  | .cmd => s
  | .status => { s with err := errAfterStatusWrite s.err d }
  | .errcode => s
  | .ctrl => { s with traceEn := traceEnAfterCtrlWrite d }
  | .klen => { s with klen := d }
  | .blen => { s with blen := d }
  | .rksel => { s with rksel := d }
  | .stage => s
  | .gfA => { s with gfA := d }
  | .gfB => { s with gfB := d }
  | .gfP => s
  | .sboxIn => { s with sboxIn := d }
  | .sboxOut => s
  | .reserved => s

/-- R292: a read returns its byte to the host. -/
def respond (b : Byte) (s : State) : State := { s with responses := s.responses ++ [b] }

/-- R350, R352: reset puts every field to its value in R56's table; RK keeps an unspecified value, a FREE VALUE here
(log entry 2). The host's own side, what it still has to do and what it has read, is not the block's to clear. -/
def resetPin (s : State) : State :=
  { State.reset with
    rk := Config.rkAfterReset s.resets
    pending := s.pending
    responses := s.responses
    resets := s.resets + 1 }

end Sys2Proof.Machine
end

