-- ==== Sys2Proof/Machine/Codec.lean ====
section
/-! DEFINITION. The stepwise commands LOAD_STATE and STORE_STATE (41_codec.md); the codec itself is in Operands.lean. -/

namespace Sys2Proof.Machine

/-- `STATE <- encode(DIN)` (R164). -/
def loadBlock (s : State) : State := setState (encodeBlock s.din) s

/-- `DOUT <- decode(STATE)` (R164). -/
def storeBlock (s : State) : State := { s with dout := decodeMatrix s.state }

/-- R165: `STATE <- encode(DIN)` and `STAGE <- 0`, or InvalidBlockLength when BLEN is not 16. -/
def execLoadState (s : State) : Host.Outcome State Fault Refusal :=
  if s.blen ≠ 16#8 then .next (raiseError .invalidBlockLength s)
  else .next (complete (setStage 0 (loadBlock s)))

/-- R166: `DOUT <- decode(STATE)`, whatever STAGE and KV are. -/
def execStoreState (s : State) : Host.Outcome State Fault Refusal :=
  .next (complete (storeBlock s))

end Sys2Proof.Machine
end

