-- ==== Sys2Proof/Machine/Galois.lean ====
section
/-! DEFINITION. GF(2^8) multiplication, the S-box, the round constants, and the commands GF_MUL and SBOX_LOOKUP
(40_galois_and_tables.md). The tables are the spec's own (R133, R136), which it took from general knowledge
(log entry 16). -/

namespace Sys2Proof.Machine

/-- R130: `t <- zext_9(a) << 1; if t[8] = 1 then t <- t ^ 0x01B; a <- t[7:0]`. -/
def shiftReduce (a : Byte) : Byte :=
  let t : BitVec 9 := a.zeroExtend 9 <<< 1
  let t : BitVec 9 := if t.getLsbD 8 then t ^^^ 0x01B else t
  t.extractLsb' 0 8

/-- R130: the loop, with the iterations left, `a`, `b` and the accumulator `p`. -/
def gmulLoop : Nat → Byte → Byte → Byte → Byte
  | 0, _, _, p => p
  | k + 1, a, b, p => gmulLoop k (shiftReduce a) (b >>> 1) (if b.getLsbD 0 then p ^^^ a else p)

/-- R130: `gmul(a, b)`, all 8 iterations whatever the operands. -/
def gmul (a b : Byte) : Byte := gmulLoop 8 a b 0

/-- R133, row 0x. -/
def sboxRow0 : Vector Byte 16 :=
  #v[0x63, 0x7C, 0x77, 0x7B, 0xF2, 0x6B, 0x6F, 0xC5, 0x30, 0x01, 0x67, 0x2B, 0xFE, 0xD7, 0xAB, 0x76]

/-- R133, row 1x. -/
def sboxRow1 : Vector Byte 16 :=
  #v[0xCA, 0x82, 0xC9, 0x7D, 0xFA, 0x59, 0x47, 0xF0, 0xAD, 0xD4, 0xA2, 0xAF, 0x9C, 0xA4, 0x72, 0xC0]

/-- R133, row 2x. -/
def sboxRow2 : Vector Byte 16 :=
  #v[0xB7, 0xFD, 0x93, 0x26, 0x36, 0x3F, 0xF7, 0xCC, 0x34, 0xA5, 0xE5, 0xF1, 0x71, 0xD8, 0x31, 0x15]

/-- R133, row 3x. -/
def sboxRow3 : Vector Byte 16 :=
  #v[0x04, 0xC7, 0x23, 0xC3, 0x18, 0x96, 0x05, 0x9A, 0x07, 0x12, 0x80, 0xE2, 0xEB, 0x27, 0xB2, 0x75]

/-- R133, row 4x. -/
def sboxRow4 : Vector Byte 16 :=
  #v[0x09, 0x83, 0x2C, 0x1A, 0x1B, 0x6E, 0x5A, 0xA0, 0x52, 0x3B, 0xD6, 0xB3, 0x29, 0xE3, 0x2F, 0x84]

/-- R133, row 5x. -/
def sboxRow5 : Vector Byte 16 :=
  #v[0x53, 0xD1, 0x00, 0xED, 0x20, 0xFC, 0xB1, 0x5B, 0x6A, 0xCB, 0xBE, 0x39, 0x4A, 0x4C, 0x58, 0xCF]

/-- R133, row 6x. -/
def sboxRow6 : Vector Byte 16 :=
  #v[0xD0, 0xEF, 0xAA, 0xFB, 0x43, 0x4D, 0x33, 0x85, 0x45, 0xF9, 0x02, 0x7F, 0x50, 0x3C, 0x9F, 0xA8]

/-- R133, row 7x. -/
def sboxRow7 : Vector Byte 16 :=
  #v[0x51, 0xA3, 0x40, 0x8F, 0x92, 0x9D, 0x38, 0xF5, 0xBC, 0xB6, 0xDA, 0x21, 0x10, 0xFF, 0xF3, 0xD2]

/-- R133, row 8x. -/
def sboxRow8 : Vector Byte 16 :=
  #v[0xCD, 0x0C, 0x13, 0xEC, 0x5F, 0x97, 0x44, 0x17, 0xC4, 0xA7, 0x7E, 0x3D, 0x64, 0x5D, 0x19, 0x73]

/-- R133, row 9x. -/
def sboxRow9 : Vector Byte 16 :=
  #v[0x60, 0x81, 0x4F, 0xDC, 0x22, 0x2A, 0x90, 0x88, 0x46, 0xEE, 0xB8, 0x14, 0xDE, 0x5E, 0x0B, 0xDB]

/-- R133, row Ax. -/
def sboxRowA : Vector Byte 16 :=
  #v[0xE0, 0x32, 0x3A, 0x0A, 0x49, 0x06, 0x24, 0x5C, 0xC2, 0xD3, 0xAC, 0x62, 0x91, 0x95, 0xE4, 0x79]

/-- R133, row Bx. -/
def sboxRowB : Vector Byte 16 :=
  #v[0xE7, 0xC8, 0x37, 0x6D, 0x8D, 0xD5, 0x4E, 0xA9, 0x6C, 0x56, 0xF4, 0xEA, 0x65, 0x7A, 0xAE, 0x08]

/-- R133, row Cx. -/
def sboxRowC : Vector Byte 16 :=
  #v[0xBA, 0x78, 0x25, 0x2E, 0x1C, 0xA6, 0xB4, 0xC6, 0xE8, 0xDD, 0x74, 0x1F, 0x4B, 0xBD, 0x8B, 0x8A]

/-- R133, row Dx. -/
def sboxRowD : Vector Byte 16 :=
  #v[0x70, 0x3E, 0xB5, 0x66, 0x48, 0x03, 0xF6, 0x0E, 0x61, 0x35, 0x57, 0xB9, 0x86, 0xC1, 0x1D, 0x9E]

/-- R133, row Ex. -/
def sboxRowE : Vector Byte 16 :=
  #v[0xE1, 0xF8, 0x98, 0x11, 0x69, 0xD9, 0x8E, 0x94, 0x9B, 0x1E, 0x87, 0xE9, 0xCE, 0x55, 0x28, 0xDF]

/-- R133, row Fx. -/
def sboxRowF : Vector Byte 16 :=
  #v[0x8C, 0xA1, 0x89, 0x0D, 0xBF, 0xE6, 0x42, 0x68, 0x41, 0x99, 0x2D, 0x0F, 0xB0, 0x54, 0xBB, 0x16]

/-- R133: the 256 entries, row by row. -/
def sboxTable : Vector (Vector Byte 16) 16 :=
  #v[sboxRow0, sboxRow1, sboxRow2, sboxRow3, sboxRow4, sboxRow5, sboxRow6, sboxRow7,
     sboxRow8, sboxRow9, sboxRowA, sboxRowB, sboxRowC, sboxRowD, sboxRowE, sboxRowF]

/-- R133: the entry in row `x[7:4]` and column `x[3:0]`. -/
def sbox (x : Byte) : Byte := sboxTable[highNibble x][lowNibble x]

/-- R136: the round constants. -/
def rcon : Vector Byte 10 := #v[0x01, 0x02, 0x04, 0x08, 0x10, 0x20, 0x40, 0x80, 0x1B, 0x36]

/-- R140: `GF_P <- gmul(GF_A, GF_B)`; cannot fail, no event. -/
def execGfMul (s : State) : Host.Outcome State Fault Refusal :=
  .next (complete { s with gfP := gmul s.gfA s.gfB })

/-- R141: `SBOX_OUT <- SBOX[SBOX_IN]`; cannot fail, no event. -/
def execSboxLookup (s : State) : Host.Outcome State Fault Refusal :=
  .next (complete { s with sboxOut := sbox s.sboxIn })

end Sys2Proof.Machine
end

