-- ==== Sys2Proof/Machine/KeySchedule.lean ====
section
/-! DEFINITION. The key schedule and EXPAND_KEY (43_key_schedule.md). -/

namespace Sys2Proof.Machine

/-- R213: `RotWord([w0, w1, w2, w3]) = [w1, w2, w3, w0]`. -/
def rotWord (w : Word) : Word := #v[w[1], w[2], w[3], w[0]]

/-- R212: SubWord, the S-box on each byte. -/
def subWord (w : Word) : Word := #v[sbox w[0], sbox w[1], sbox w[2], sbox w[3]]

/-- R212: the round constant `RCON[j]` is XORed into the first byte. -/
def addRcon (w : Word) (j : Fin 10) : Word := #v[w[0] ^^^ rcon[j], w[1], w[2], w[3]]

/-- R212: word XOR, byte by byte on rows 0..3. -/
def xorWord (a b : Word) : Word := Vector.ofFn fun r => a[r] ^^^ b[r]

/-- R212: the word `t` of the step that consumes `RCON[j]`. -/
def scheduleWord (p : Matrix) (j : Fin 10) : Word := addRcon (subWord (rotWord (column p 3))) j

/-- R212: `schedule[j + 1]` from `p = schedule[j]`, with "each" read as column c of `p` (C5). -/
def scheduleStep (p : Matrix) (j : Fin 10) : Matrix :=
  let n0 := xorWord (column p 0) (scheduleWord p j)
  let n1 := xorWord (column p 1) n0
  let n2 := xorWord (column p 2) n1
  let n3 := xorWord (column p 3) n2
  fromColumns n0 n1 n2 n3

/-- R211, R212: `schedule[i]`. -/
def roundKey (key : Block) : (i : Nat) → i < 11 → Matrix
  | 0, _ => encodeBlock key
  | i + 1, h => scheduleStep (roundKey key i (Nat.lt_of_succ_lt h)) ⟨i, Nat.lt_of_succ_lt_succ h⟩

/-- R210: `expandKey(key)`, the 11 round-key matrices. -/
def expandKey (key : Block) : Schedule := Vector.ofFn fun i => roundKey key i.val i.isLt

/-- R216, R275: the four events of the step `i = j + 1` that takes `p` to `schedule[i]`. -/
def scheduleEvents (p : Matrix) (j : Fin 10) : List Event :=
  let i : Byte := BitVec.ofNat 8 (j.val + 1)
  let last := column p 3
  let rot := rotWord last
  let sub := subWord rot
  [wordEvent .ksRotWord i last rot,
   wordEvent .ksSubWord i rot sub,
   wordEvent .ksRcon i sub (addRcon sub j),
   matrixEvent .ksRoundKey i p (scheduleStep p j)]

/-- R216: the 40 events of an expansion, step by step in increasing order. -/
def expandEvents (key : Block) : List Event :=
  (List.finRange 10).flatMap fun j =>
    scheduleEvents (roundKey key j.val (Nat.lt_succ_of_lt j.isLt)) j

/-- R216: the body of EXPAND_KEY after its check; ENCRYPT runs it too (R245). -/
def runKeySchedule (s : State) : State :=
  setSchedule (expandKey s.key) (emitAll (expandEvents s.key) s)

/-- R216: InvalidKeyLength when KLEN is not 16, before any state change. -/
def execExpandKey (s : State) : Host.Outcome State Fault Refusal :=
  if s.klen ≠ 16#8 then .next (raiseError .invalidKeyLength s)
  else .next (complete (runKeySchedule s))

end Sys2Proof.Machine
end

