-- ==== Sys2Proof/Machine/Rounds.lean ====
section
/-! DEFINITION. The four round transformations and the commands that apply one of them to STATE
(42_round_transforms.md). -/

namespace Sys2Proof.Machine

/-- R180: `SubBytes(s)[r][c] = SBOX[s[r][c]]`. -/
def subBytes (s : Matrix) : Matrix := matrixOf fun r c => sbox s[r][c]

/-- R181: `ShiftRows(s)[r][c] = s[r][(c + r) mod 4]`. -/
def shiftRows (s : Matrix) : Matrix := matrixOf fun r c => s[r][(c.val + r.val) % 4]

/-- R182: the entry `M[row][k]` of the diffusion matrix. Every row of it has 2 on the diagonal, 3 in the next column
(column 0 after column 3), and 1 elsewhere. -/
def mixCoefficient (row k : Fin 4) : Byte := if k = row then 2 else if k = row + 1 then 3 else 1

/-- R182: each output byte is the XOR of four products. -/
def mixColumns (s : Matrix) : Matrix := matrixOf fun r c =>
  gmul (mixCoefficient r 0) s[0][c] ^^^ gmul (mixCoefficient r 1) s[1][c]
    ^^^ gmul (mixCoefficient r 2) s[2][c] ^^^ gmul (mixCoefficient r 3) s[3][c]

/-- R184: `AddRoundKey(s, k)[r][c] = s[r][c] ^ k[r][c]`. -/
def addRoundKey (s k : Matrix) : Matrix := matrixOf fun r c => s[r][c] ^^^ k[r][c]

/-- The shared shape of R188 to R191: STATE gets `after`, and one event shows what the transformation received and
returned. STAGE is neither read nor changed (R187). -/
def transformState (kind : EventKind) (index : Byte) (after : Matrix) (s : State) : State :=
  setState after (emitAll [matrixEvent kind index s.state after] s)

/-- R188. -/
def execSubBytes (s : State) : Host.Outcome State Fault Refusal :=
  .next (complete (transformState .subBytes noIndex (subBytes s.state) s))

/-- R189. -/
def execShiftRows (s : State) : Host.Outcome State Fault Refusal :=
  .next (complete (transformState .shiftRows noIndex (shiftRows s.state) s))

/-- R190. -/
def execMixColumns (s : State) : Host.Outcome State Fault Refusal :=
  .next (complete (transformState .mixColumns noIndex (mixColumns s.state) s))

/-- R191: NoSchedule when KV = 0, then BadRoundIndex when RKSEL > 10 (R318); else STATE is XORed with `RK[RKSEL]`. -/
def execAddRoundKey (s : State) : Host.Outcome State Fault Refusal :=
  if s.kv then
    match selectedKey s with
    | some k => .next (complete (transformState .addRoundKey s.rksel (addRoundKey s.state k) s))
    | none => .next (raiseError .badRoundIndex s)
  else .next (raiseError .noSchedule s)

end Sys2Proof.Machine
end

