-- ==== Sys2Proof/Machine/Cipher.lean ====
section
/-! DEFINITION. The cipher pipeline, ENCRYPT and NEXT_STAGE (44_cipher_core.md). -/

namespace Sys2Proof.Machine

/-- R240: stage `n` of the pipeline; whitening, nine full rounds, a final round without MixColumns. -/
def stage (n : Fin 11) (s : Matrix) (rk : Schedule) : Matrix :=
  if n.val = 0 then addRoundKey s rk[0]
  else if n.val = 10 then addRoundKey (shiftRows (subBytes s)) rk[10]
  else addRoundKey (mixColumns (shiftRows (subBytes s))) rk[n]

/-- R241: stages 0..10 in increasing order, unconditionally. -/
def pipeline (s : Matrix) (rk : Schedule) : Matrix :=
  (List.finRange 11).foldl (fun t n => stage n t rk) s

/-- R241: `cipher(pt, key)`. -/
def cipher (pt key : Block) : Block :=
  decodeMatrix (pipeline (encodeBlock pt) (expandKey key))

/-- R252: one event per transformation of stage `n`, in application order, each with index `n`. -/
def stageEvents (n : Fin 11) (s : Matrix) (rk : Schedule) : List Event :=
  let i : Byte := BitVec.ofNat 8 n.val
  let sub := subBytes s
  let shifted := shiftRows sub
  let mixed := mixColumns shifted
  if n.val = 0 then [matrixEvent .addRoundKey i s (stage n s rk)]
  else if n.val = 10 then
    [matrixEvent .subBytes i s sub,
     matrixEvent .shiftRows i sub shifted,
     matrixEvent .addRoundKey i shifted (stage n s rk)]
  else
    [matrixEvent .subBytes i s sub,
     matrixEvent .shiftRows i sub shifted,
     matrixEvent .mixColumns i shifted mixed,
     matrixEvent .addRoundKey i mixed (stage n s rk)]

/-- R240, R252: stage `n` on STATE with RK, emitting its events if TRACE_EN = 1. -/
def runStage (n : Fin 11) (s : State) : State :=
  setState (stage n s.state s.rk) (emitAll (stageEvents n s.state s.rk) s)

/-- R245: `for n in 0..10: run stage n on STATE`. -/
def runPipeline (s : State) : State := (List.finRange 11).foldl (fun t n => runStage n t) s

/-- R245: InvalidBlockLength, then InvalidKeyLength (R318); else the key is expanded afresh, DIN is encrypted, DOUT gets
the ciphertext and STAGE becomes 11. -/
def execEncrypt (s : State) : Host.Outcome State Fault Refusal :=
  if s.blen ≠ 16#8 then .next (raiseError .invalidBlockLength s)
  else if s.klen ≠ 16#8 then .next (raiseError .invalidKeyLength s)
  else .next (complete (setStage 11 (storeBlock (runPipeline (loadBlock (runKeySchedule s))))))

/-- R250: NoSchedule when KV = 0, then Sequence when STAGE = 11 (R318); else stage STAGE runs and STAGE advances by
one, which never wraps (R251). -/
def execNextStage (s : State) : Host.Outcome State Fault Refusal :=
  if s.kv then
    if h : s.stage.val < 11 then
      .next (complete (setStage ⟨s.stage.val + 1, Nat.succ_lt_succ h⟩ (runStage ⟨s.stage.val, h⟩ s)))
    else .next (raiseError .sequence s)
  else .next (raiseError .noSchedule s)

end Sys2Proof.Machine
end

