-- ==== Sys2Proof/Machine/HostAccess.lean ====
section
/-! DEFINITION. NOP, the command dispatch of a CMD write, and the bus transactions (46_host_access.md). -/

namespace Sys2Proof.Machine

/-- R297: nothing but `ERRCODE <- 0x00`; ERR is sticky. -/
def execNop (s : State) : Host.Outcome State Fault Refusal := .next (complete s)

/-- R296: the twelve opcodes matched explicitly; every other byte raises IllegalCommand (R105, R314). -/
def executeCommand (op : Byte) (s : State) : Host.Outcome State Fault Refusal :=
  match op with
  | 0x00#8 => execNop s
  | 0x01#8 => execExpandKey s
  | 0x02#8 => execEncrypt s
  | 0x10#8 => execLoadState s
  | 0x11#8 => execSubBytes s
  | 0x12#8 => execShiftRows s
  | 0x13#8 => execMixColumns s
  | 0x14#8 => execAddRoundKey s
  | 0x15#8 => execStoreState s
  | 0x16#8 => execNextStage s
  | 0x20#8 => execGfMul s
  | 0x21#8 => execSboxLookup s
  | _ => .next (raiseError .illegalCommand s)

/-- R290: the byte `rd(s, a)` goes to the host; no architectural state changes. -/
def execBusRead (addr : Byte) (s : State) : Host.Outcome State Fault Refusal :=
  .next (respond (readRegister s addr) s)

/-- R291: `wr(s, a, d)`; at CMD it executes command `d`. -/
def execBusWrite (addr data : Byte) (s : State) : Host.Outcome State Fault Refusal :=
  match regAt addr with
  | .cmd => executeCommand data s
  | r => .next (writeReg data s r)

end Sys2Proof.Machine
end

