-- ==== Sys2Proof/Machine/Deliver.lean ====
section
/-! DEFINITION. What one host event does to the block (R292, R350, R352). -/

namespace Sys2Proof.Machine

/-- A transaction runs the instruction its word stands for (R292), reset resets whether or not a command was running
(R350, R352), and an access during reset has no transition (R352, I18). -/
def deliver (e : HostEvent) (s : State) : Host.Outcome State Fault Refusal :=
  match e with
  | .access w =>
    match decode w with
    | .ok i => exec i s
    | .error (.nonCanonicalRead v) => .refused (.nonCanonicalRead v)
  | .reset => .next (resetPin s)
  | .abandoned _ => .next (resetPin s)
  | .accessInReset _ => .fault .accessDuringReset

/-- The event by which the host issues the word the opcode table gives a row (log entry 9). -/
def tableEvent (nbits w : Nat) : HostEvent := .access (tableTxn nbits w)

/-- The events still to come once `e` stands first. -/
def presentFirst (e : HostEvent) (s : State) : State := { s with pending := e :: s.pending }

end Sys2Proof.Machine
end

