-- ==== Sys2Proof/Machine/Step.lean ====
section
/-! DEFINITION. One step: the oldest host event takes effect whole (R83, R292); with none presented the block is idle
(R9, R351). -/

namespace Sys2Proof.Machine

def step (s : State) : Host.Outcome State Fault Refusal :=
  match s.pending with
  | [] => .next s
  | e :: rest => deliver e { s with pending := rest }

/-- `s` with the table's word presented as the host's next transaction. -/
def State.withFetchWord (s : State) (nbits w : Nat) : State := presentFirst (tableEvent nbits w) s

end Sys2Proof.Machine
end

