-- ==== Sys2Proof/Machine/Platform.lean ====
section
/-! DEFINITION. What the platform around the block fixes: the base address (R74) and several independent instances
(R334). -/

namespace Sys2Proof.Machine

/-- R74: the system address that reaches register address `a` is `AES_BASE + a`. -/
def systemAddress (a : Byte) : Nat := Config.aesBase + a.toNat

/-- R74: the register address a system address reaches; none outside the block's 256 bytes. -/
def registerAddress (sys : Nat) : Option Byte :=
  if Config.aesBase ≤ sys ∧ sys < Config.aesBase + 256 then some (BitVec.ofNat 8 (sys - Config.aesBase)) else none

/-- R334: each instance comes out of reset by itself. -/
def platformReset (n : Nat) : Vector State n := Vector.replicate n State.reset

/-- R334: a step of instance `k` of `n` independent instances, the product of single machines. -/
def platformStep {n : Nat} (k : Fin n) (p : Vector State n) : Host.Outcome (Vector State n) Fault Refusal :=
  match step p[k] with
  | .next t => .next (p.set k t)
  | .fault r => .fault r
  | .refused r => .refused r

end Sys2Proof.Machine
end

