-- ==== Sys2Proof/Safety.lean ====
section
/-! DEFINITION. The terms claims are stated in: the invariants of R57, what R277 and R37 hide, runs of commands and of
host programs (R299). -/

namespace Sys2Proof.Machine

/-- R57: when KV = 1, RK is the schedule of the KEY the host has left in place. -/
def ScheduleValid (s : State) : Prop := s.kv = true → s.rk = expandKey s.key

/-- R310, I17: the values ERRCODE can hold; 0x03 and 0x08..0xFF are never written. -/
def legalErrcodes : List Byte := [0x00, 0x01, 0x02, 0x04, 0x05, 0x06, 0x07]

/-- R274: the indices an event of each kind may carry. -/
def legalIndex (kind : EventKind) (index : Byte) : Prop :=
  match kind with
  | .subBytes => (1 ≤ index.toNat ∧ index.toNat ≤ 10) ∨ index = 0xFF
  | .shiftRows => (1 ≤ index.toNat ∧ index.toNat ≤ 10) ∨ index = 0xFF
  | .mixColumns => (1 ≤ index.toNat ∧ index.toNat ≤ 9) ∨ index = 0xFF
  | .addRoundKey => index.toNat ≤ 10
  | .ksRotWord => 1 ≤ index.toNat ∧ index.toNat ≤ 10
  | .ksSubWord => 1 ≤ index.toNat ∧ index.toNat ≤ 10
  | .ksRcon => 1 ≤ index.toNat ∧ index.toNat ≤ 10
  | .ksRoundKey => 1 ≤ index.toNat ∧ index.toNat ≤ 10

/-- R274: how many bytes `before` and `after` have. -/
def eventLength : EventKind → Nat
  | .subBytes => 16
  | .shiftRows => 16
  | .mixColumns => 16
  | .addRoundKey => 16
  | .ksRotWord => 4
  | .ksSubWord => 4
  | .ksRcon => 4
  | .ksRoundKey => 16

/-- R273, R274: an event of the table. -/
def Event.Legal (e : Event) : Prop :=
  legalIndex e.kind e.index ∧ e.before.length = eventLength e.kind ∧ e.after.length = eventLength e.kind

/-- The invariant of R57, with the legal result codes (I17) and the legal events (R274). -/
def Invariant (s : State) : Prop :=
  ScheduleValid s ∧ s.errcode ∈ legalErrcodes ∧ ∀ e ∈ s.trace, Event.Legal e

/-- R277: the architectural state with TRACE and TRACE_EN hidden. -/
def untraced (a : Arch) : Arch := { a with trace := [], traceEn := false }

/-- R37, I7: the state with RK hidden while KV = 0, when nothing can observe it. -/
def hideStaleRk (s : State) : State :=
  if s.kv then s else { s with rk := State.reset.rk }

/-- R241, R252: the state matrix stage `n` receives, when the pipeline starts from `s`. -/
def stageInput (s : Matrix) (rk : Schedule) (n : Nat) : Matrix :=
  ((List.finRange 11).take n).foldl (fun t k => stage k t rk) s

/-- R275: the 40 stage events of a pipeline that starts from `s`, stage by stage. -/
def pipelineEvents (s : Matrix) (rk : Schedule) : List Event :=
  (List.finRange 11).flatMap fun n => stageEvents n (stageInput s rk n.val) rk

/-- R214: the flat word sequence `w[4i + c]`, one byte of it: row `r` of column `k mod 4` of `schedule[k div 4]`. -/
def scheduleByte (key : Block) (k : Fin 44) (r : Fin 4) : Byte :=
  (expandKey key)[k.val / 4][r][k.val % 4]

/-- R131: a byte as a polynomial over GF(2), bit `i` the coefficient of x^i. -/
noncomputable def bytePoly (a : Byte) : Polynomial (ZMod 2) :=
  ∑ i ∈ Finset.range 8, if a.getLsbD i then Polynomial.X ^ i else 0

/-- R130: the reduction polynomial 0x11B. -/
noncomputable def reductionPoly : Polynomial (ZMod 2) :=
  Polynomial.X ^ 8 + Polynomial.X ^ 4 + Polynomial.X ^ 3 + Polynomial.X + 1

/-- The instructions of a list run in order, stopping at a fault or a refusal. -/
def execAll : List Instr → State → Host.Outcome State Fault Refusal
  | [], s => .next s
  | i :: rest, s =>
    match exec i s with
    | .next t => execAll rest t
    | .fault r => .fault r
    | .refused r => .refused r

/-- `k` steps in turn, stopping at a fault or a refusal. -/
def runSteps : Nat → State → Host.Outcome State Fault Refusal
  | 0, s => .next s
  | k + 1, s =>
    match step s with
    | .next t => runSteps k t
    | .fault r => .fault r
    | .refused r => .refused r

/-- Two outcomes stop for the same reason, or give next states that `R` relates. -/
def OutcomesAgree (R : State → State → Prop) :
    Host.Outcome State Fault Refusal → Host.Outcome State Fault Refusal → Prop
  | .next a, .next b => R a b
  | .fault p, .fault q => p = q
  | .refused p, .refused q => p = q
  | _, _ => False

/-- R277: two states with the same value of every field of R30 but TRACE and TRACE_EN, and the same host events to
come. -/
def SameButTrace (s t : State) : Prop :=
  untraced s.toArch = untraced t.toArch ∧ s.pending = t.pending ∧ s.resets = t.resets

/-- R37, I7: two states that differ at most in an RK that KV = 0 makes stale. -/
def SameButStaleRk (s t : State) : Prop := hideStaleRk s = hideStaleRk t

/-- R246: the stepwise sequence ENCRYPT is compared with. -/
def stepwiseEncrypt : List Instr :=
  [.expandKey, .loadState] ++ List.replicate 11 .nextStage ++ [.storeState]

/-- R275, R276: how many events a command that succeeds emits when TRACE_EN = 1. -/
def eventCount (stageNow : Nat) : Instr → Nat
  | .expandKey => 40
  | .encrypt => 80
  | .nextStage => if stageNow = 0 then 1 else if stageNow = 10 then 3 else 4
  | .subBytes => 1
  | .shiftRows => 1
  | .mixColumns => 1
  | .addRoundKey => 1
  | .nop => 0
  | .loadState => 0
  | .storeState => 0
  | .gfMul => 0
  | .sboxLookup => 0
  | .busRead _ => 0
  | .busWrite _ _ => 0

/-- R299: `s` with a host program as all there is to come. -/
def withProgram (program : List Txn) (s : State) : State :=
  { s with pending := program.map HostEvent.access }

/-- R299: the reads of a host program, in order. -/
def readsOf (program : List Txn) : List Txn := program.filter fun w => !txnWrite w

/-- R300: the host performs no access while reset is asserted, and issues only canonical words (R100). -/
def HostEvent.Allowed : HostEvent → Prop
  | .access w => txnCanonical w = true
  | .reset => True
  | .abandoned _ => True
  | .accessInReset _ => False

end Sys2Proof.Machine
end

