-- ==== Sys2Proof/Certificates/Slice0/Obligations.lean ====
section
/-! DEFINITION. The statements about the model, each from the spec's rules. Nothing is proved here. -/

open Sys2Proof Sys2Proof.Machine

/-! ## Encoding (30_encoding.md) -/

/-- R100, R102, R104: decoding the encoding of a well-formed instruction gives it back, every operand kept. What is
well-formed is the model's choice (log entry 8): all but a bus write of a defined opcode to CMD. -/
def Obligations.DecodeEncodeRoundTrip : Prop :=
  ∀ i : Instr, i.wellFormed = true → decode (encode i) = .ok i

/-- R100: the other direction: a decoded word is the encoding of what it decodes to. That what it decodes to is
well-formed is the model's choice (log entry 8): a CMD write of a defined opcode is read under the command's name only. -/
def Obligations.EncodeDecodeRoundTrip : Prop :=
  ∀ (w : Txn) (i : Instr), decode w = .ok i → encode i = w ∧ i.wellFormed = true

/-- R100, R106: the only words refused are read words (bit 16 clear) whose DATA bits 7:0 are not zero. R100 says that a
decoder should refuse them; that the model's does is log entry 7. -/
def Obligations.DecodeRefusesOnlyNonCanonicalReads : Prop :=
  ∀ w : Txn,
    (decode w = .error (.nonCanonicalRead w) ↔ w.getLsbD 16 = false ∧ w.extractLsb' 0 8 ≠ 0) ∧
    ((∃ i, decode w = .ok i) ↔ w.getLsbD 16 = true ∨ w.extractLsb' 0 8 = 0)

/-- R100, R104: words written out bit by bit, at least one per family. Bit 16 is W, then ADDR, then DATA. Which of its
two names a CMD write is read under is the model's choice (log entry 8): the command's for a defined opcode, and the bus
write's for an illegal byte, as the last word has it. -/
def Obligations.SampleWordsDecode : Prop :=
  decode 0b1_01010000_00000000 = .ok .nop ∧
  decode 0b1_01010000_00000001 = .ok .expandKey ∧
  decode 0b1_01010000_00000010 = .ok .encrypt ∧
  decode 0b1_01010000_00010000 = .ok .loadState ∧
  decode 0b1_01010000_00010100 = .ok .addRoundKey ∧
  decode 0b1_01010000_00010110 = .ok .nextStage ∧
  decode 0b1_01010000_00100001 = .ok .sboxLookup ∧
  decode 0b0_00100000_00000000 = .ok (.busRead 0x20) ∧
  decode 0b1_00000111_10011100 = .ok (.busWrite 0x07 0x9C) ∧
  decode 0b1_01010000_00000011 = .ok (.busWrite 0x50 0x03)

/-- R105, R314: the bytes of the three illegal ranges, and no others, name no command, and a CMD write of one raises
IllegalCommand and changes nothing but ERRCODE and ERR. -/
def Obligations.IllegalCommandRaises : Prop :=
  (∀ op : Byte,
    decodeCommand op = .error (.illegalCommand op) ↔
      (0x03 ≤ op.toNat ∧ op.toNat ≤ 0x0F) ∨ (0x17 ≤ op.toNat ∧ op.toNat ≤ 0x1F) ∨ 0x22 ≤ op.toNat) ∧
  ∀ (s : State) (op : Byte),
    (0x03 ≤ op.toNat ∧ op.toNat ≤ 0x0F) ∨ (0x17 ≤ op.toNat ∧ op.toNat ≤ 0x1F) ∨ 0x22 ≤ op.toNat →
    exec (.busWrite 0x50 op) s = .next { s with errcode := 0x04, err := true }

/-- R296, R104: a write of each defined opcode to CMD runs that command, and any other byte raises IllegalCommand. -/
def Obligations.CmdWriteDispatches : Prop :=
  ∀ s : State,
    exec (.busWrite 0x50 0x00) s = exec .nop s ∧
    exec (.busWrite 0x50 0x01) s = exec .expandKey s ∧
    exec (.busWrite 0x50 0x02) s = exec .encrypt s ∧
    exec (.busWrite 0x50 0x10) s = exec .loadState s ∧
    exec (.busWrite 0x50 0x11) s = exec .subBytes s ∧
    exec (.busWrite 0x50 0x12) s = exec .shiftRows s ∧
    exec (.busWrite 0x50 0x13) s = exec .mixColumns s ∧
    exec (.busWrite 0x50 0x14) s = exec .addRoundKey s ∧
    exec (.busWrite 0x50 0x15) s = exec .storeState s ∧
    exec (.busWrite 0x50 0x16) s = exec .nextStage s ∧
    exec (.busWrite 0x50 0x20) s = exec .gfMul s ∧
    exec (.busWrite 0x50 0x21) s = exec .sboxLookup s ∧
    ∀ op : Byte, op ∉ definedOpcodes →
      exec (.busWrite 0x50 op) s = .next { s with errcode := 0x04, err := true }

/-! ## The step -/

/-- R292: when the host's next event is a transaction whose word decodes to `i`, the step is `exec i` of the state
with that event taken off. There is no program counter to advance (R31). That the host's events stand in `pending` is the
model's choice (log entry 3). -/
def Obligations.StepRunsDecodedInstruction : Prop :=
  ∀ (s : State) (w : Txn) (rest : List HostEvent) (i : Instr),
    s.pending = .access w :: rest → decode w = .ok i → step s = exec i { s with pending := rest }

/-- The other steps. The idle step is the model's choice (log entry 4), the refusal follows R100 and I22 (log entry 7),
the stop during reset is the model's form of "no transition" (R352, I18, log entry 6). -/
def Obligations.OtherStepsAreIdleOrStop : Prop :=
  ∀ s : State,
    (s.pending = [] → step s = .next s) ∧
    (∀ (w : Txn) (rest : List HostEvent), s.pending = .access w :: rest →
      w.getLsbD 16 = false → w.extractLsb' 0 8 ≠ 0 → step s = .refused (.nonCanonicalRead w)) ∧
    (∀ (w : Txn) (rest : List HostEvent), s.pending = .accessInReset w :: rest →
      step s = .fault .accessDuringReset)

/-- The word of an opcode-table row, placed as the host's next transaction, is run by the very next step. How a row's
word is presented is the model's choice (log entries 3 and 9). -/
def Obligations.TableWordRunsNext : Prop :=
  ∀ (s : State) (nbits w : Nat) (i : Instr),
    decodeTableWord nbits w = some i → step (s.withFetchWord nbits w) = exec i s

/-! ## GF(2^8), the S-box and the round constants (40_galois_and_tables.md) -/

/-- R140: GF_MUL writes the product to GF_P and 0x00 to ERRCODE, and nothing else. -/
def Obligations.GfMulWritesProduct : Prop :=
  decodeCommand 0x20 = .ok .gfMul ∧
  ∀ s : State, exec .gfMul s = .next { s with gfP := gmul s.gfA s.gfB, errcode := 0x00 }

/-- R131: `gmul` is the product of the two polynomials over GF(2) modulo x^8 + x^4 + x^3 + x + 1 (an inference the spec
marks "derived: from rule R130"). -/
def Obligations.GmulIsPolynomialProduct : Prop :=
  ∀ a b : Byte, reductionPoly ∣ bytePoly a * bytePoly b - bytePoly (gmul a b)

/-- R131, R132: the laws of `gmul`, a field's multiplication with XOR as addition; multiplying by 2 is one
shift-and-reduce step, and multiplying by 3 adds the operand. The spec marks both rules as derived from R130. -/
def Obligations.GmulFieldLaws : Prop :=
  (∀ a : Byte, gmul a 0 = 0) ∧
  (∀ a : Byte, gmul a 1 = a) ∧
  (∀ a b : Byte, gmul a b = gmul b a) ∧
  (∀ a b c : Byte, gmul (gmul a b) c = gmul a (gmul b c)) ∧
  (∀ a b c : Byte, gmul a (b ^^^ c) = gmul a b ^^^ gmul a c) ∧
  (∀ a : Byte, a ≠ 0 → ∃! b : Byte, gmul a b = 1) ∧
  (∀ a : Byte, gmul a 0x02 = (a <<< 1) ^^^ (if a.getLsbD 7 then 0x1B else 0x00)) ∧
  (∀ a : Byte, gmul a 0x03 = gmul a 0x02 ^^^ a)

/-- R141: SBOX_LOOKUP writes the table's entry to SBOX_OUT and 0x00 to ERRCODE, and nothing else. -/
def Obligations.SboxLookupWritesEntry : Prop :=
  decodeCommand 0x21 = .ok .sboxLookup ∧
  ∀ s : State, exec .sboxLookup s = .next { s with sboxOut := sbox s.sboxIn, errcode := 0x00 }

/-- R134: the table equals the affine map of the field inverse, with inv(0) = 0 (from general knowledge, log entry 16). -/
def Obligations.SboxIsAffineOfInverse : Prop :=
  ∀ x y : Byte, (if x = 0 then y = 0 else gmul x y = 1) →
    ∀ i : Fin 8, (sbox x).getLsbD i =
      (y.getLsbD i ^^ y.getLsbD ((i + 4) % 8) ^^ y.getLsbD ((i + 5) % 8) ^^ y.getLsbD ((i + 6) % 8)
        ^^ y.getLsbD ((i + 7) % 8) ^^ (0x63 : Byte).getLsbD i)

/-- R135: the S-box is a permutation of the bytes and has no fixed point (the second an inference from the table). -/
def Obligations.SboxIsPermutation : Prop :=
  Function.Bijective sbox ∧ ∀ x : Byte, sbox x ≠ x

/-- R136: the round constants start at 1 and double in GF(2^8) (an inference from the table, log entry 16). -/
def Obligations.RoundConstantsDouble : Prop :=
  rcon[0] = 0x01 ∧ ∀ j : Fin 9, rcon[j.val + 1] = gmul rcon[j.val] 0x02

/-! ## Codec (41_codec.md) -/

/-- R160, R161, R162: where each byte goes, both round trips, and that both functions are bijections. R162 marks its
second round trip "derived: from rules R160 and R161". -/
def Obligations.CodecRoundTrips : Prop :=
  (∀ (b : Block) (r c : Fin 4), (encodeBlock b)[r][c] = b[r.val + 4 * c.val]) ∧
  (∀ (m : Matrix) (i : Fin 16), (decodeMatrix m)[i] = m[i.val % 4][i.val / 4]) ∧
  (∀ b : Block, decodeMatrix (encodeBlock b) = b) ∧ (∀ m : Matrix, encodeBlock (decodeMatrix m) = m) ∧
  Function.Bijective encodeBlock ∧ Function.Bijective decodeMatrix

/-- R165: LOAD_STATE with BLEN = 16 copies DIN into STATE and restarts the pipeline; otherwise InvalidBlockLength. -/
def Obligations.LoadStateLoadsOrFails : Prop :=
  decodeCommand 0x10 = .ok .loadState ∧
  ∀ s : State,
    (s.blen = 16#8 → exec .loadState s =
      .next { s with state := encodeBlock s.din, stage := 0, errcode := 0x00 }) ∧
    (s.blen ≠ 16#8 → exec .loadState s = .next { s with errcode := 0x01, err := true })

/-- R166: STORE_STATE copies STATE into DOUT, whatever STAGE and KV are. -/
def Obligations.StoreStateStores : Prop :=
  decodeCommand 0x15 = .ok .storeState ∧
  ∀ s : State, exec .storeState s = .next { s with dout := decodeMatrix s.state, errcode := 0x00 }

/-! ## Round transformations (42_round_transforms.md) -/

/-- R180, R181, R184: three of the transformations, entry by entry. -/
def Obligations.TransformEntries : Prop :=
  ∀ (s k : Matrix) (r c : Fin 4),
    (subBytes s)[r][c] = sbox s[r][c] ∧
    (shiftRows s)[r][c] = s[r][(c.val + r.val) % 4] ∧
    (addRoundKey s k)[r][c] = s[r][c] ^^^ k[r][c]

/-- R182, R183: MixColumns written out for one column; only the multipliers 2 and 3 remain. R183 is marked "derived". -/
def Obligations.MixColumnsWrittenOut : Prop :=
  ∀ (s : Matrix) (c : Fin 4),
    (mixColumns s)[0][c] = gmul 2 s[0][c] ^^^ gmul 3 s[1][c] ^^^ s[2][c] ^^^ s[3][c] ∧
    (mixColumns s)[1][c] = s[0][c] ^^^ gmul 2 s[1][c] ^^^ gmul 3 s[2][c] ^^^ s[3][c] ∧
    (mixColumns s)[2][c] = s[0][c] ^^^ s[1][c] ^^^ gmul 2 s[2][c] ^^^ gmul 3 s[3][c] ∧
    (mixColumns s)[3][c] = gmul 3 s[0][c] ^^^ s[1][c] ^^^ s[2][c] ^^^ gmul 2 s[3][c]

/-- R186: the laws of the transformations, two of which the spec marks "derived" (AddRoundKey(s, s), equal columns). -/
def Obligations.TransformLaws : Prop :=
  (∀ s k : Matrix, addRoundKey (addRoundKey s k) k = s) ∧
  (∀ s : Matrix, shiftRows (shiftRows (shiftRows (shiftRows s))) = s) ∧
  (∀ (s : Matrix) (c : Fin 4), (shiftRows s)[0][c] = s[0][c]) ∧
  Function.Bijective subBytes ∧
  (∀ (s : Matrix) (r c : Fin 4), (addRoundKey s s)[r][c] = 0) ∧
  (∀ (s : Matrix) (c : Fin 4), (∀ r : Fin 4, s[r][c] = s[0][c]) → ∀ r : Fin 4, (mixColumns s)[r][c] = s[r][c])

/-- R186: MixColumns is invertible (the spec marks this as general knowledge; no command uses the inverse). -/
def Obligations.MixColumnsInvertible : Prop := Function.Bijective mixColumns

/-- R188, R189, R190: the three keyless commands replace STATE, emit one event with index 0xFF when TRACE_EN = 1, and
change nothing else but ERRCODE. -/
def Obligations.KeylessTransformsRun : Prop :=
  decodeCommand 0x11 = .ok .subBytes ∧ decodeCommand 0x12 = .ok .shiftRows ∧ decodeCommand 0x13 = .ok .mixColumns ∧
  ∀ s : State,
    exec .subBytes s = .next { s with
      state := subBytes s.state
      trace := s.trace ++ (if s.traceEn then
        [⟨.subBytes, 0xFF, (decodeMatrix s.state).toList, (decodeMatrix (subBytes s.state)).toList⟩] else [])
      errcode := 0x00 } ∧
    exec .shiftRows s = .next { s with
      state := shiftRows s.state
      trace := s.trace ++ (if s.traceEn then
        [⟨.shiftRows, 0xFF, (decodeMatrix s.state).toList, (decodeMatrix (shiftRows s.state)).toList⟩] else [])
      errcode := 0x00 } ∧
    exec .mixColumns s = .next { s with
      state := mixColumns s.state
      trace := s.trace ++ (if s.traceEn then
        [⟨.mixColumns, 0xFF, (decodeMatrix s.state).toList, (decodeMatrix (mixColumns s.state)).toList⟩] else [])
      errcode := 0x00 }

/-- R191: ADD_ROUND_KEY XORs `RK[RKSEL]` into STATE when KV = 1 and RKSEL is 0..10; NoSchedule comes before
BadRoundIndex. -/
def Obligations.AddRoundKeyRunsOrFails : Prop :=
  decodeCommand 0x14 = .ok .addRoundKey ∧
  ∀ s : State,
    (∀ h : s.rksel.toNat < 11, s.kv = true → exec .addRoundKey s = .next { s with
      state := addRoundKey s.state s.rk[s.rksel.toNat]
      trace := s.trace ++ (if s.traceEn then
        [⟨.addRoundKey, s.rksel, (decodeMatrix s.state).toList,
          (decodeMatrix (addRoundKey s.state s.rk[s.rksel.toNat])).toList⟩] else [])
      errcode := 0x00 }) ∧
    (s.kv = false → exec .addRoundKey s = .next { s with errcode := 0x05, err := true }) ∧
    (s.kv = true → 10 < s.rksel.toNat → exec .addRoundKey s = .next { s with errcode := 0x06, err := true })

/-! ## Key schedule (43_key_schedule.md) -/

/-- R214: the schedule as a flat sequence of words, byte by byte; an inference the spec marks "derived: from rules R211
and R212". -/
def Obligations.ScheduleRecurrence : Prop :=
  ∀ (key : Block) (r : Fin 4),
    (∀ k : Fin 4, scheduleByte key ⟨k.val, by omega⟩ r = (encodeBlock key)[r][k]) ∧
    (∀ i : Fin 10,
      scheduleByte key ⟨4 * (i.val + 1), by omega⟩ r =
        scheduleByte key ⟨4 * i.val, by omega⟩ r
          ^^^ sbox (scheduleByte key ⟨4 * i.val + 3, by omega⟩ ⟨(r.val + 1) % 4, by omega⟩)
          ^^^ (if r = 0 then rcon[i] else 0)) ∧
    (∀ (k : Nat) (h : 4 ≤ k ∧ k < 44), k % 4 ≠ 0 →
      scheduleByte key ⟨k, by omega⟩ r =
        scheduleByte key ⟨k - 4, by omega⟩ r ^^^ scheduleByte key ⟨k - 1, by omega⟩ r)

/-- R216: EXPAND_KEY with KLEN = 16 writes all of RK and sets KV; otherwise InvalidKeyLength, and RK, KV and the trace
stay. -/
def Obligations.ExpandKeyRunsOrFails : Prop :=
  decodeCommand 0x01 = .ok .expandKey ∧
  ∀ s : State,
    (s.klen = 16#8 → exec .expandKey s = .next { s with
      rk := expandKey s.key
      kv := true
      trace := s.trace ++ (if s.traceEn then expandEvents s.key else [])
      errcode := 0x00 }) ∧
    (s.klen ≠ 16#8 → exec .expandKey s = .next { s with errcode := 0x02, err := true })

/-- R216, R275: the 40 events of an expansion: what stands at each place. -/
def Obligations.KeyScheduleEvents : Prop :=
  ∀ key : Block,
    (expandEvents key).length = 40 ∧
    ∀ j : Fin 10,
      let p := (expandKey key)[j.val]
      let n := (expandKey key)[j.val + 1]
      let rot := [p[1][3], p[2][3], p[3][3], p[0][3]]
      let sub := rot.map sbox
      (expandEvents key)[4 * j.val]? =
        some ⟨.ksRotWord, BitVec.ofNat 8 (j.val + 1), [p[0][3], p[1][3], p[2][3], p[3][3]], rot⟩ ∧
      (expandEvents key)[4 * j.val + 1]? = some ⟨.ksSubWord, BitVec.ofNat 8 (j.val + 1), rot, sub⟩ ∧
      (expandEvents key)[4 * j.val + 2]? =
        some ⟨.ksRcon, BitVec.ofNat 8 (j.val + 1), sub,
          [sbox p[1][3] ^^^ rcon[j], sbox p[2][3], sbox p[3][3], sbox p[0][3]]⟩ ∧
      (expandEvents key)[4 * j.val + 3]? =
        some ⟨.ksRoundKey, BitVec.ofNat 8 (j.val + 1), (decodeMatrix p).toList, (decodeMatrix n).toList⟩

/-! ## Cipher core (44_cipher_core.md) -/

/-- R240, R252: the three forms of a stage, and its events in application order. -/
def Obligations.StagesAndTheirEvents : Prop :=
  ∀ (s : Matrix) (rk : Schedule),
    let sub := subBytes s
    let sh := shiftRows sub
    let bytes := fun m : Matrix => (decodeMatrix m).toList
    (stage 0 s rk = addRoundKey s rk[0] ∧
      stageEvents 0 s rk = [⟨.addRoundKey, 0, bytes s, bytes (addRoundKey s rk[0])⟩]) ∧
    (∀ n : Fin 11, 1 ≤ n.val → n.val ≤ 9 →
      stage n s rk = addRoundKey (mixColumns sh) rk[n] ∧
      stageEvents n s rk =
        [⟨.subBytes, BitVec.ofNat 8 n, bytes s, bytes sub⟩,
         ⟨.shiftRows, BitVec.ofNat 8 n, bytes sub, bytes sh⟩,
         ⟨.mixColumns, BitVec.ofNat 8 n, bytes sh, bytes (mixColumns sh)⟩,
         ⟨.addRoundKey, BitVec.ofNat 8 n, bytes (mixColumns sh), bytes (addRoundKey (mixColumns sh) rk[n])⟩]) ∧
    (stage 10 s rk = addRoundKey sh rk[10] ∧
      stageEvents 10 s rk =
        [⟨.subBytes, 10, bytes s, bytes sub⟩,
         ⟨.shiftRows, 10, bytes sub, bytes sh⟩,
         ⟨.addRoundKey, 10, bytes sh, bytes (addRoundKey sh rk[10])⟩])

/-- R245: ENCRYPT with both lengths 16 encrypts DIN under KEY; InvalidBlockLength comes before InvalidKeyLength. -/
def Obligations.EncryptRunsOrFails : Prop :=
  decodeCommand 0x02 = .ok .encrypt ∧
  ∀ s : State,
    (s.blen = 16#8 → s.klen = 16#8 → exec .encrypt s = .next { s with
      rk := expandKey s.key
      kv := true
      state := encodeBlock (cipher s.din s.key)
      dout := cipher s.din s.key
      stage := 11
      trace := s.trace ++ (if s.traceEn then
        expandEvents s.key ++ pipelineEvents (encodeBlock s.din) (expandKey s.key) else [])
      errcode := 0x00 }) ∧
    (s.blen ≠ 16#8 → exec .encrypt s = .next { s with errcode := 0x01, err := true }) ∧
    (s.blen = 16#8 → s.klen ≠ 16#8 → exec .encrypt s = .next { s with errcode := 0x02, err := true })

/-- R246: with both lengths 16, ENCRYPT equals EXPAND_KEY, LOAD_STATE, eleven NEXT_STAGE, STORE_STATE on every field,
the trace among them. The spec marks R246 "derived". -/
def Obligations.EncryptEqualsStepwise : Prop :=
  ∀ s : State, s.blen = 16#8 → s.klen = 16#8 → execAll stepwiseEncrypt s = exec .encrypt s

/-- R250: NEXT_STAGE runs stage STAGE and advances it; NoSchedule comes before Sequence. -/
def Obligations.NextStageRunsOrFails : Prop :=
  decodeCommand 0x16 = .ok .nextStage ∧
  ∀ s : State,
    (∀ n : Fin 11, s.kv = true → s.stage = n.castSucc → exec .nextStage s = .next { s with
      state := stage n s.state s.rk
      stage := n.succ
      trace := s.trace ++ (if s.traceEn then stageEvents n s.state s.rk else [])
      errcode := 0x00 }) ∧
    (s.kv = false → exec .nextStage s = .next { s with errcode := 0x05, err := true }) ∧
    (s.kv = true → s.stage = 11 → exec .nextStage s = .next { s with errcode := 0x07, err := true })

/-- R251: LOAD_STATE and eleven NEXT_STAGE leave the ciphertext matrix in STATE and STAGE at 11; DOUT is not written. -/
def Obligations.StepwisePipelineCompletes : Prop :=
  ∀ s : State, s.kv = true → ScheduleValid s → s.blen = 16#8 →
    ∃ t, execAll (.loadState :: List.replicate 11 .nextStage) s = .next t ∧
      decodeMatrix t.state = cipher s.din s.key ∧ t.stage = 11 ∧ t.dout = s.dout ∧ t.errcode = 0x00

/-- R242: the source's vector (§8), and the FIPS-197 vectors the spec lists as V2 and V3. -/
def Obligations.CipherReproducesVectors : Prop :=
  cipher #v[0x74, 0x65, 0x6C, 0x65, 0x63, 0x6F, 0x6D, 0x6D, 0x75, 0x6E, 0x69, 0x63, 0x61, 0x74, 0x69, 0x6F]
      #v[0x65, 0x6C, 0x65, 0x63, 0x74, 0x72, 0x69, 0x63, 0x61, 0x6C, 0x6C, 0x79, 0x63, 0x6F, 0x6E, 0x64] =
    #v[0x2D, 0x09, 0x6D, 0xD8, 0xC7, 0xA4, 0x6B, 0x56, 0x14, 0xD4, 0xF4, 0x7B, 0x71, 0x61, 0xD6, 0x48] ∧
  cipher #v[0x32, 0x43, 0xF6, 0xA8, 0x88, 0x5A, 0x30, 0x8D, 0x31, 0x31, 0x98, 0xA2, 0xE0, 0x37, 0x07, 0x34]
      #v[0x2B, 0x7E, 0x15, 0x16, 0x28, 0xAE, 0xD2, 0xA6, 0xAB, 0xF7, 0x15, 0x88, 0x09, 0xCF, 0x4F, 0x3C] =
    #v[0x39, 0x25, 0x84, 0x1D, 0x02, 0xDC, 0x09, 0xFB, 0xDC, 0x11, 0x85, 0x97, 0x19, 0x6A, 0x0B, 0x32] ∧
  cipher #v[0x00, 0x11, 0x22, 0x33, 0x44, 0x55, 0x66, 0x77, 0x88, 0x99, 0xAA, 0xBB, 0xCC, 0xDD, 0xEE, 0xFF]
      #v[0x00, 0x01, 0x02, 0x03, 0x04, 0x05, 0x06, 0x07, 0x08, 0x09, 0x0A, 0x0B, 0x0C, 0x0D, 0x0E, 0x0F] =
    #v[0x69, 0xC4, 0xE0, 0xD8, 0x6A, 0x7B, 0x04, 0x30, 0xD8, 0xCD, 0xB7, 0x80, 0x70, 0xB4, 0xC5, 0x5A]

/-! ## Host access (46_host_access.md) -/

/-- R297: NOP writes 0x00 to ERRCODE and nothing else; ERR stays. -/
def Obligations.NopReportsSuccess : Prop :=
  decodeCommand 0x00 = .ok .nop ∧ ∀ s : State, exec .nop s = .next { s with errcode := 0x00 }

/-- R290: what a read of each address returns; no architectural state changes. That the returned byte is appended to
`responses` is the model's choice (log entry 5). -/
def Obligations.BusReadReturns : Prop :=
  ∀ s : State,
    let reads := fun (a v : Byte) => exec (.busRead a) s = .next { s with responses := s.responses ++ [v] }
    (∀ i : Fin 16, reads (BitVec.ofNat 8 (0x00 + i.val)) s.key[i]) ∧
    (∀ i : Fin 16, reads (BitVec.ofNat 8 (0x10 + i.val)) s.din[i]) ∧
    (∀ i : Fin 16, reads (BitVec.ofNat 8 (0x20 + i.val)) s.dout[i]) ∧
    (∀ i : Fin 16, reads (BitVec.ofNat 8 (0x30 + i.val)) s.state[i.val % 4][i.val / 4]) ∧
    (∀ (i : Fin 16) (h : s.rksel.toNat < 11), s.kv = true →
      reads (BitVec.ofNat 8 (0x40 + i.val)) s.rk[s.rksel.toNat][i.val % 4][i.val / 4]) ∧
    (∀ i : Fin 16, s.kv = false ∨ 10 < s.rksel.toNat → reads (BitVec.ofNat 8 (0x40 + i.val)) 0x00) ∧
    reads 0x50 0x00 ∧
    reads 0x51 (BitVec.ofNat 8 (2 * s.err.toNat + s.kv.toNat)) ∧
    reads 0x52 s.errcode ∧
    reads 0x53 (if s.traceEn then 0x01 else 0x00) ∧
    reads 0x54 s.klen ∧
    reads 0x55 s.blen ∧
    reads 0x56 s.rksel ∧
    reads 0x57 (BitVec.ofNat 8 s.stage.val) ∧
    reads 0x58 s.gfA ∧
    reads 0x59 s.gfB ∧
    reads 0x5A s.gfP ∧
    reads 0x5B s.sboxIn ∧
    reads 0x5C s.sboxOut ∧
    (∀ a : Byte, 0x5D ≤ a.toNat → reads a 0x00)

/-- R291: what a write of each address changes; at CMD it executes the command. -/
def Obligations.BusWriteChanges : Prop :=
  ∀ (s : State) (d : Byte),
    (∀ i : Fin 16, exec (.busWrite (BitVec.ofNat 8 (0x00 + i.val)) d) s =
      .next { s with key := s.key.set i d, kv := false }) ∧
    (∀ i : Fin 16, exec (.busWrite (BitVec.ofNat 8 (0x10 + i.val)) d) s = .next { s with din := s.din.set i d }) ∧
    (∀ a : Byte, 0x20 ≤ a.toNat → a.toNat ≤ 0x4F → exec (.busWrite a d) s = .next s) ∧
    (∀ i, decodeCommand d = .ok i → exec (.busWrite 0x50 d) s = exec i s) ∧
    (∀ e, decodeCommand d = .error e →
      exec (.busWrite 0x50 d) s = .next { s with errcode := 0x04, err := true }) ∧
    exec (.busWrite 0x51 d) s = .next { s with err := if d.getLsbD 1 then false else s.err } ∧
    exec (.busWrite 0x52 d) s = .next s ∧
    exec (.busWrite 0x53 d) s = .next { s with traceEn := d.getLsbD 0 } ∧
    exec (.busWrite 0x54 d) s = .next { s with klen := d } ∧
    exec (.busWrite 0x55 d) s = .next { s with blen := d } ∧
    exec (.busWrite 0x56 d) s = .next { s with rksel := d } ∧
    exec (.busWrite 0x57 d) s = .next s ∧
    exec (.busWrite 0x58 d) s = .next { s with gfA := d } ∧
    exec (.busWrite 0x59 d) s = .next { s with gfB := d } ∧
    exec (.busWrite 0x5A d) s = .next s ∧
    exec (.busWrite 0x5B d) s = .next { s with sboxIn := d } ∧
    exec (.busWrite 0x5C d) s = .next s ∧
    (∀ a : Byte, 0x5D ≤ a.toNat → exec (.busWrite a d) s = .next s)

/-- R81: no read changes the block, and every write but a CMD write is idempotent. -/
def Obligations.AccessesAreIdempotent : Prop :=
  ∀ (s : State) (a d : Byte),
    (∃ t, exec (.busRead a) s = .next t ∧ t.toArch = s.toArch) ∧
    (a ≠ 0x50 → ∃ t, exec (.busWrite a d) s = .next t ∧ exec (.busWrite a d) t = .next t)

/-- R71, R72, R73: every register byte has exactly one address, and the addresses from 0x5D on are reserved. -/
def Obligations.AddressMapIsOneToOne : Prop :=
  (∀ a b : Byte, regAt a ≠ .reserved → regAt a = regAt b → a = b) ∧
  (∀ r : Reg, ∃ a : Byte, regAt a = r) ∧
  (∀ a : Byte, regAt a = .reserved ↔ 0x5D ≤ a.toNat)

/-- R38, R363: after a write of any value to a KEY byte, NEXT_STAGE and ADD_ROUND_KEY fail with NoSchedule, and every
byte of RKWIN reads 0x00. That a read byte is appended to `responses` is the model's choice (log entry 5). -/
def Obligations.KeyWriteBlocksSchedule : Prop :=
  ∀ (s : State) (i j : Fin 16) (d : Byte),
    ∃ u, exec (.busWrite (BitVec.ofNat 8 i.val) d) s = .next u ∧
      exec .nextStage u = .next { u with errcode := 0x05, err := true } ∧
      exec .addRoundKey u = .next { u with errcode := 0x05, err := true } ∧
      exec (.busRead (BitVec.ofNat 8 (0x40 + j.val))) u = .next { u with responses := u.responses ++ [0x00] }

/-! ## Errors (60_exceptions.md) -/

/-- R318: every command reports the first error in its check order, or none. -/
def Obligations.ErrorPriority : Prop :=
  ∀ s : State,
    let reports := fun (i : Instr) (code : Byte) => ∃ t, exec i s = .next t ∧ t.errcode = code
    reports .encrypt (if s.blen ≠ 16#8 then 0x01 else if s.klen ≠ 16#8 then 0x02 else 0x00) ∧
    reports .expandKey (if s.klen ≠ 16#8 then 0x02 else 0x00) ∧
    reports .loadState (if s.blen ≠ 16#8 then 0x01 else 0x00) ∧
    reports .addRoundKey (if s.kv = false then 0x05 else if 10 < s.rksel.toNat then 0x06 else 0x00) ∧
    reports .nextStage (if s.kv = false then 0x05 else if s.stage = 11 then 0x07 else 0x00) ∧
    (∀ op : Byte, op ∉ definedOpcodes → reports (.busWrite 0x50 op) 0x04) ∧
    reports .nop 0x00 ∧ reports .storeState 0x00 ∧ reports .subBytes 0x00 ∧ reports .shiftRows 0x00 ∧
    reports .mixColumns 0x00 ∧ reports .gfMul 0x00 ∧ reports .sboxLookup 0x00

/-- R317, R319, R41: every command either completes, with ERRCODE = 0x00 and ERR as it was, or changes nothing but
ERRCODE and ERR. -/
def Obligations.ErrorsArePrecise : Prop :=
  ∀ (i : Instr) (s : State), i.isCommand = true →
    ∃ t, exec i s = .next t ∧
      ((t.errcode = 0x00 ∧ t.err = s.err) ∨
       (t = { s with errcode := t.errcode, err := true } ∧ t.errcode ∈ [0x01, 0x02, 0x05, 0x06, 0x07]))

/-- R321: repeating a failed command reproduces the same error and the same state. -/
def Obligations.FailedCommandRepeats : Prop :=
  ∀ (i : Instr) (s t : State), i.isCommand = true → exec i s = .next t → t.errcode ≠ 0x00 → exec i t = .next t

/-- R39, R319: only a STATUS write with data bit 1 = 1 clears ERR, and only a failing command sets it. -/
def Obligations.ErrIsSticky : Prop :=
  ∀ (i : Instr) (s t : State), exec i s = .next t →
    (s.err = true → t.err = false → ∃ d : Byte, i = .busWrite 0x51 d ∧ d.getLsbD 1 = true) ∧
    (s.err = false → t.err = true →
      (i.isCommand = true ∨ ∃ d, i = .busWrite 0x50 d) ∧ t.errcode ≠ 0x00)

/-- R38: what changes KV. -/
def Obligations.KvChangesOnlyAsStated : Prop :=
  ∀ (i : Instr) (s t : State), exec i s = .next t →
    (s.kv = true → t.kv = false → ∃ a d : Byte, i = .busWrite a d ∧ a.toNat ≤ 0x0F) ∧
    (s.kv = false → t.kv = true →
      (i = .expandKey ∨ i = .encrypt ∨ i = .busWrite 0x50 0x01 ∨ i = .busWrite 0x50 0x02) ∧ t.errcode = 0x00)

/-- R44: what changes STAGE, and how; its read has bits 7:4 clear. -/
def Obligations.StageChangesOnlyAsStated : Prop :=
  (∀ (i : Instr) (s t : State), exec i s = .next t → t.stage ≠ s.stage →
    ((i = .loadState ∨ i = .busWrite 0x50 0x10) ∧ t.stage = 0) ∨
    ((i = .nextStage ∨ i = .busWrite 0x50 0x16) ∧ t.stage.val = s.stage.val + 1) ∨
    ((i = .encrypt ∨ i = .busWrite 0x50 0x02) ∧ t.stage = 11)) ∧
  (∀ s : State, (readRegister s 0x57).extractLsb' 4 4 = 0)

/-- R55: the frame of every command: what it leaves as it was, by the table's columns. The host's side, which is the
model's own (log entries 2, 3 and 5), is untouched too. -/
def Obligations.CommandFrame : Prop :=
  ∀ (i : Instr) (s t : State), i.isCommand = true → exec i s = .next t →
    t.key = s.key ∧ t.din = s.din ∧ t.klen = s.klen ∧ t.blen = s.blen ∧ t.rksel = s.rksel ∧
    t.traceEn = s.traceEn ∧ t.gfA = s.gfA ∧ t.gfB = s.gfB ∧ t.sboxIn = s.sboxIn ∧
    t.pending = s.pending ∧ t.responses = s.responses ∧ t.resets = s.resets ∧
    (i ≠ .expandKey → i ≠ .encrypt → t.rk = s.rk ∧ t.kv = s.kv) ∧
    (i ≠ .storeState → i ≠ .encrypt → t.dout = s.dout) ∧
    (i ≠ .gfMul → t.gfP = s.gfP) ∧
    (i ≠ .sboxLookup → t.sboxOut = s.sboxOut) ∧
    (i ∈ [Instr.nop, .expandKey, .storeState, .gfMul, .sboxLookup] → t.state = s.state) ∧
    (i ≠ .loadState → i ≠ .nextStage → i ≠ .encrypt → t.stage = s.stage)

/-! ## The trace (45_instrumentation.md) -/

/-- R270, R272, R275, R276: a command only appends to TRACE: nothing when TRACE_EN = 0 or on an error, else as many
events as R275 says. -/
def Obligations.TraceGrowsByStatedCount : Prop :=
  ∀ (i : Instr) (s t : State), i.isCommand = true → exec i s = .next t →
    ∃ es, t.trace = s.trace ++ es ∧
      es.length = if s.traceEn = true ∧ t.errcode = 0x00 then eventCount s.stage.val i else 0

/-- R277: any command or bus access run from one state with TRACE_EN = 1 and with TRACE_EN = 0 gives the same value of
every field of R30 but TRACE and TRACE_EN. -/
def Obligations.TraceNeverAltersResult : Prop :=
  ∀ (i : Instr) (s : State),
    ∃ t u, exec i { s with traceEn := true } = .next t ∧ exec i { s with traceEn := false } = .next u ∧
      untraced t.toArch = untraced u.toArch

/-- R277 over whole runs: two states that differ only in TRACE, TRACE_EN and what has been read so far stay so after any
number of steps of any host events (log entry 3), or stop for the same reason. The two runs' resets leave the same free
value in RK (log entry 2). -/
def Obligations.TraceNeverAltersRun : Prop :=
  ∀ (k : Nat) (s t : State), SameButTrace s t → OutcomesAgree SameButTrace (runSteps k s) (runSteps k t)

/-- R301, R274: the codes of the eight kinds; the port's length is 4 or 16, byte `i` of an event is on bits 8i+7..8i, and
bytes past the length are 0. -/
def Obligations.PortPlacesBytes : Prop :=
  (kindCode .subBytes = 0x01 ∧ kindCode .shiftRows = 0x02 ∧ kindCode .mixColumns = 0x03 ∧
    kindCode .addRoundKey = 0x04 ∧ kindCode .ksRotWord = 0x10 ∧ kindCode .ksSubWord = 0x11 ∧
    kindCode .ksRcon = 0x12 ∧ kindCode .ksRoundKey = 0x13) ∧
  ∀ e : Event, e.Legal →
    (portOf e).kind = kindCode e.kind ∧ (portOf e).index = e.index ∧
    ((portOf e).len = 4 ∨ (portOf e).len = 16) ∧ (portOf e).len.toNat = e.before.length ∧
    ∀ i : Fin 16,
      (portOf e).before.extractLsb' (8 * i.val) 8 = e.before.getD i.val 0 ∧
      (portOf e).after.extractLsb' (8 * i.val) 8 = e.after.getD i.val 0 ∧
      ((portOf e).len.toNat ≤ i.val →
        (portOf e).before.extractLsb' (8 * i.val) 8 = 0 ∧ (portOf e).after.extractLsb' (8 * i.val) 8 = 0)

/-! ## State, invariants and reset (10_state.md, 70_reset_and_hazards.md) -/

/-- R57: the invariant holds after reset. -/
def Obligations.InvHoldsAtReset : Prop := Invariant State.reset

/-- R57, R274, I17: every step keeps the invariant: when KV = 1, RK is the schedule of KEY; ERRCODE is a code of R310;
every event of TRACE is one of R274's table. -/
def Obligations.StepKeepsInv : Prop :=
  ∀ s t : State, Invariant s → step s = .next t → Invariant t

/-- R37, I7: what RK holds while KV = 0 never shows: two states that differ only in such an RK give the same read values,
trace and outcome over any run, and differ at most in such an RK at its end. The host's side of a run is the model's
choice (log entries 3 and 5). -/
def Obligations.StaleRkIsUnobservable : Prop :=
  ∀ (k : Nat) (s t : State), SameButStaleRk s t → OutcomesAgree SameButStaleRk (runSteps k s) (runSteps k t)

/-- R56: the reset values the spec states (all but RK's, which it leaves open: log entry 1). -/
def Obligations.ResetValues : Prop :=
  (∀ i : Fin 16, State.reset.key[i] = 0 ∧ State.reset.din[i] = 0 ∧ State.reset.dout[i] = 0) ∧
  (∀ r c : Fin 4, State.reset.state[r][c] = 0) ∧
  State.reset.kv = false ∧ State.reset.err = false ∧ State.reset.traceEn = false ∧
  State.reset.errcode = 0 ∧ State.reset.klen = 0 ∧ State.reset.blen = 0 ∧ State.reset.rksel = 0 ∧
  State.reset.stage = 0 ∧ State.reset.gfA = 0 ∧ State.reset.gfB = 0 ∧ State.reset.gfP = 0 ∧
  State.reset.sboxIn = 0 ∧ State.reset.sboxOut = 0 ∧ State.reset.trace = []

/-- R350, R352: reset, asserted alone or while a command runs, leaves R56's values in every field but RK, whose value is
free; none of the command's writes survive. That the host's own side stays is the model's choice (log entries 3, 5). -/
def Obligations.ResetEventRestoresResetState : Prop :=
  ∀ (s : State) (e : HostEvent) (rest : List HostEvent),
    s.pending = e :: rest → (e = .reset ∨ ∃ w, e = .abandoned w) →
    ∃ rk n, step s = .next { State.reset with rk := rk, pending := rest, responses := s.responses, resets := n }

/-- R299: a finite host program of canonical words runs to its end from any state: no step faults or refuses, and each
read gives back one byte. That the program stands in `pending` and the bytes in `responses` is the model's choice (log
entries 3 and 5). -/
def Obligations.HostProgramRunsToItsEnd : Prop :=
  ∀ (program : List Txn) (s : State), (∀ w ∈ program, txnCanonical w = true) →
    ∃ t, runSteps program.length (withProgram program s) = .next t ∧ t.pending = [] ∧
      t.responses.length = s.responses.length + (readsOf program).length

/-- R299, R300: while the host keeps its duties no step stops, and they are kept. The duties are said of `pending`, which
is the model's choice (log entry 3). -/
def Obligations.AllowedHostNeverStopsMachine : Prop :=
  ∀ s : State, (∀ e ∈ s.pending, e.Allowed) →
    ∃ t, step s = .next t ∧ ∀ e ∈ t.pending, e.Allowed

/-- R334: a step of one instance leaves every other instance as it was, and is the single machine's step in its own. -/
def Obligations.InstancesAreIndependent : Prop :=
  ∀ (n : Nat) (k : Fin n) (p q : Vector State n), platformStep k p = .next q →
    step p[k] = .next q[k] ∧ ∀ j : Fin n, j ≠ k → q[j] = p[j]

/-- R74: the system address `AES_BASE + a` reaches register address `a`, whatever AES_BASE is. That no other system address
reaches the block is the model's choice (log entry 12). -/
def Obligations.BaseAddressReachesRegister : Prop :=
  ∀ (sys : Nat) (a : Byte), registerAddress sys = some a ↔ sys = systemAddress a
end

