-- ==== Sys2Proof/Laws/State.lean ====
section
/-! SUPPORT. What each named update does to each field of State: one lemma per field per update, so that no later proof
unfolds a record update. -/

namespace Sys2Proof.Machine

/-! ### `complete`: a command that succeeds (R41) -/

@[simp] theorem complete_key (s : State) : (complete s).key = s.key := rfl
@[simp] theorem complete_din (s : State) : (complete s).din = s.din := rfl
@[simp] theorem complete_dout (s : State) : (complete s).dout = s.dout := rfl
@[simp] theorem complete_state (s : State) : (complete s).state = s.state := rfl
@[simp] theorem complete_rk (s : State) : (complete s).rk = s.rk := rfl
@[simp] theorem complete_kv (s : State) : (complete s).kv = s.kv := rfl
@[simp] theorem complete_err (s : State) : (complete s).err = s.err := rfl
@[simp] theorem complete_errcode (s : State) : (complete s).errcode = okByte := rfl
@[simp] theorem complete_traceEn (s : State) : (complete s).traceEn = s.traceEn := rfl
@[simp] theorem complete_klen (s : State) : (complete s).klen = s.klen := rfl
@[simp] theorem complete_blen (s : State) : (complete s).blen = s.blen := rfl
@[simp] theorem complete_rksel (s : State) : (complete s).rksel = s.rksel := rfl
@[simp] theorem complete_stage (s : State) : (complete s).stage = s.stage := rfl
@[simp] theorem complete_gfA (s : State) : (complete s).gfA = s.gfA := rfl
@[simp] theorem complete_gfB (s : State) : (complete s).gfB = s.gfB := rfl
@[simp] theorem complete_gfP (s : State) : (complete s).gfP = s.gfP := rfl
@[simp] theorem complete_sboxIn (s : State) : (complete s).sboxIn = s.sboxIn := rfl
@[simp] theorem complete_sboxOut (s : State) : (complete s).sboxOut = s.sboxOut := rfl
@[simp] theorem complete_trace (s : State) : (complete s).trace = s.trace := rfl
@[simp] theorem complete_pending (s : State) : (complete s).pending = s.pending := rfl
@[simp] theorem complete_responses (s : State) : (complete s).responses = s.responses := rfl
@[simp] theorem complete_resets (s : State) : (complete s).resets = s.resets := rfl

/-! ### `raiseError`: a command that fails (R317) -/

@[simp] theorem raiseError_key (e : ErrorCode) (s : State) : (raiseError e s).key = s.key := rfl
@[simp] theorem raiseError_din (e : ErrorCode) (s : State) : (raiseError e s).din = s.din := rfl
@[simp] theorem raiseError_dout (e : ErrorCode) (s : State) : (raiseError e s).dout = s.dout := rfl
@[simp] theorem raiseError_state (e : ErrorCode) (s : State) : (raiseError e s).state = s.state := rfl
@[simp] theorem raiseError_rk (e : ErrorCode) (s : State) : (raiseError e s).rk = s.rk := rfl
@[simp] theorem raiseError_kv (e : ErrorCode) (s : State) : (raiseError e s).kv = s.kv := rfl
@[simp] theorem raiseError_err (e : ErrorCode) (s : State) : (raiseError e s).err = true := rfl
@[simp] theorem raiseError_errcode (e : ErrorCode) (s : State) : (raiseError e s).errcode = errorByte e := rfl
@[simp] theorem raiseError_traceEn (e : ErrorCode) (s : State) : (raiseError e s).traceEn = s.traceEn := rfl
@[simp] theorem raiseError_klen (e : ErrorCode) (s : State) : (raiseError e s).klen = s.klen := rfl
@[simp] theorem raiseError_blen (e : ErrorCode) (s : State) : (raiseError e s).blen = s.blen := rfl
@[simp] theorem raiseError_rksel (e : ErrorCode) (s : State) : (raiseError e s).rksel = s.rksel := rfl
@[simp] theorem raiseError_stage (e : ErrorCode) (s : State) : (raiseError e s).stage = s.stage := rfl
@[simp] theorem raiseError_gfA (e : ErrorCode) (s : State) : (raiseError e s).gfA = s.gfA := rfl
@[simp] theorem raiseError_gfB (e : ErrorCode) (s : State) : (raiseError e s).gfB = s.gfB := rfl
@[simp] theorem raiseError_gfP (e : ErrorCode) (s : State) : (raiseError e s).gfP = s.gfP := rfl
@[simp] theorem raiseError_sboxIn (e : ErrorCode) (s : State) : (raiseError e s).sboxIn = s.sboxIn := rfl
@[simp] theorem raiseError_sboxOut (e : ErrorCode) (s : State) : (raiseError e s).sboxOut = s.sboxOut := rfl
@[simp] theorem raiseError_trace (e : ErrorCode) (s : State) : (raiseError e s).trace = s.trace := rfl
@[simp] theorem raiseError_pending (e : ErrorCode) (s : State) : (raiseError e s).pending = s.pending := rfl
@[simp] theorem raiseError_responses (e : ErrorCode) (s : State) : (raiseError e s).responses = s.responses := rfl
@[simp] theorem raiseError_resets (e : ErrorCode) (s : State) : (raiseError e s).resets = s.resets := rfl

/-! ### `setState`: `STATE <- m` -/

@[simp] theorem setState_key (m : Matrix) (s : State) : (setState m s).key = s.key := rfl
@[simp] theorem setState_din (m : Matrix) (s : State) : (setState m s).din = s.din := rfl
@[simp] theorem setState_dout (m : Matrix) (s : State) : (setState m s).dout = s.dout := rfl
@[simp] theorem setState_state (m : Matrix) (s : State) : (setState m s).state = m := rfl
@[simp] theorem setState_rk (m : Matrix) (s : State) : (setState m s).rk = s.rk := rfl
@[simp] theorem setState_kv (m : Matrix) (s : State) : (setState m s).kv = s.kv := rfl
@[simp] theorem setState_err (m : Matrix) (s : State) : (setState m s).err = s.err := rfl
@[simp] theorem setState_errcode (m : Matrix) (s : State) : (setState m s).errcode = s.errcode := rfl
@[simp] theorem setState_traceEn (m : Matrix) (s : State) : (setState m s).traceEn = s.traceEn := rfl
@[simp] theorem setState_klen (m : Matrix) (s : State) : (setState m s).klen = s.klen := rfl
@[simp] theorem setState_blen (m : Matrix) (s : State) : (setState m s).blen = s.blen := rfl
@[simp] theorem setState_rksel (m : Matrix) (s : State) : (setState m s).rksel = s.rksel := rfl
@[simp] theorem setState_stage (m : Matrix) (s : State) : (setState m s).stage = s.stage := rfl
@[simp] theorem setState_gfA (m : Matrix) (s : State) : (setState m s).gfA = s.gfA := rfl
@[simp] theorem setState_gfB (m : Matrix) (s : State) : (setState m s).gfB = s.gfB := rfl
@[simp] theorem setState_gfP (m : Matrix) (s : State) : (setState m s).gfP = s.gfP := rfl
@[simp] theorem setState_sboxIn (m : Matrix) (s : State) : (setState m s).sboxIn = s.sboxIn := rfl
@[simp] theorem setState_sboxOut (m : Matrix) (s : State) : (setState m s).sboxOut = s.sboxOut := rfl
@[simp] theorem setState_trace (m : Matrix) (s : State) : (setState m s).trace = s.trace := rfl
@[simp] theorem setState_pending (m : Matrix) (s : State) : (setState m s).pending = s.pending := rfl
@[simp] theorem setState_responses (m : Matrix) (s : State) : (setState m s).responses = s.responses := rfl
@[simp] theorem setState_resets (m : Matrix) (s : State) : (setState m s).resets = s.resets := rfl

/-! ### `setStage`: `STAGE <- n` -/

@[simp] theorem setStage_key (n : Fin 12) (s : State) : (setStage n s).key = s.key := rfl
@[simp] theorem setStage_din (n : Fin 12) (s : State) : (setStage n s).din = s.din := rfl
@[simp] theorem setStage_dout (n : Fin 12) (s : State) : (setStage n s).dout = s.dout := rfl
@[simp] theorem setStage_state (n : Fin 12) (s : State) : (setStage n s).state = s.state := rfl
@[simp] theorem setStage_rk (n : Fin 12) (s : State) : (setStage n s).rk = s.rk := rfl
@[simp] theorem setStage_kv (n : Fin 12) (s : State) : (setStage n s).kv = s.kv := rfl
@[simp] theorem setStage_err (n : Fin 12) (s : State) : (setStage n s).err = s.err := rfl
@[simp] theorem setStage_errcode (n : Fin 12) (s : State) : (setStage n s).errcode = s.errcode := rfl
@[simp] theorem setStage_traceEn (n : Fin 12) (s : State) : (setStage n s).traceEn = s.traceEn := rfl
@[simp] theorem setStage_klen (n : Fin 12) (s : State) : (setStage n s).klen = s.klen := rfl
@[simp] theorem setStage_blen (n : Fin 12) (s : State) : (setStage n s).blen = s.blen := rfl
@[simp] theorem setStage_rksel (n : Fin 12) (s : State) : (setStage n s).rksel = s.rksel := rfl
@[simp] theorem setStage_stage (n : Fin 12) (s : State) : (setStage n s).stage = n := rfl
@[simp] theorem setStage_gfA (n : Fin 12) (s : State) : (setStage n s).gfA = s.gfA := rfl
@[simp] theorem setStage_gfB (n : Fin 12) (s : State) : (setStage n s).gfB = s.gfB := rfl
@[simp] theorem setStage_gfP (n : Fin 12) (s : State) : (setStage n s).gfP = s.gfP := rfl
@[simp] theorem setStage_sboxIn (n : Fin 12) (s : State) : (setStage n s).sboxIn = s.sboxIn := rfl
@[simp] theorem setStage_sboxOut (n : Fin 12) (s : State) : (setStage n s).sboxOut = s.sboxOut := rfl
@[simp] theorem setStage_trace (n : Fin 12) (s : State) : (setStage n s).trace = s.trace := rfl
@[simp] theorem setStage_pending (n : Fin 12) (s : State) : (setStage n s).pending = s.pending := rfl
@[simp] theorem setStage_responses (n : Fin 12) (s : State) : (setStage n s).responses = s.responses := rfl
@[simp] theorem setStage_resets (n : Fin 12) (s : State) : (setStage n s).resets = s.resets := rfl

/-! ### `setSchedule`: `RK <- k; KV <- 1` -/

@[simp] theorem setSchedule_key (k : Schedule) (s : State) : (setSchedule k s).key = s.key := rfl
@[simp] theorem setSchedule_din (k : Schedule) (s : State) : (setSchedule k s).din = s.din := rfl
@[simp] theorem setSchedule_dout (k : Schedule) (s : State) : (setSchedule k s).dout = s.dout := rfl
@[simp] theorem setSchedule_state (k : Schedule) (s : State) : (setSchedule k s).state = s.state := rfl
@[simp] theorem setSchedule_rk (k : Schedule) (s : State) : (setSchedule k s).rk = k := rfl
@[simp] theorem setSchedule_kv (k : Schedule) (s : State) : (setSchedule k s).kv = true := rfl
@[simp] theorem setSchedule_err (k : Schedule) (s : State) : (setSchedule k s).err = s.err := rfl
@[simp] theorem setSchedule_errcode (k : Schedule) (s : State) : (setSchedule k s).errcode = s.errcode := rfl
@[simp] theorem setSchedule_traceEn (k : Schedule) (s : State) : (setSchedule k s).traceEn = s.traceEn := rfl
@[simp] theorem setSchedule_klen (k : Schedule) (s : State) : (setSchedule k s).klen = s.klen := rfl
@[simp] theorem setSchedule_blen (k : Schedule) (s : State) : (setSchedule k s).blen = s.blen := rfl
@[simp] theorem setSchedule_rksel (k : Schedule) (s : State) : (setSchedule k s).rksel = s.rksel := rfl
@[simp] theorem setSchedule_stage (k : Schedule) (s : State) : (setSchedule k s).stage = s.stage := rfl
@[simp] theorem setSchedule_gfA (k : Schedule) (s : State) : (setSchedule k s).gfA = s.gfA := rfl
@[simp] theorem setSchedule_gfB (k : Schedule) (s : State) : (setSchedule k s).gfB = s.gfB := rfl
@[simp] theorem setSchedule_gfP (k : Schedule) (s : State) : (setSchedule k s).gfP = s.gfP := rfl
@[simp] theorem setSchedule_sboxIn (k : Schedule) (s : State) : (setSchedule k s).sboxIn = s.sboxIn := rfl
@[simp] theorem setSchedule_sboxOut (k : Schedule) (s : State) : (setSchedule k s).sboxOut = s.sboxOut := rfl
@[simp] theorem setSchedule_trace (k : Schedule) (s : State) : (setSchedule k s).trace = s.trace := rfl
@[simp] theorem setSchedule_pending (k : Schedule) (s : State) : (setSchedule k s).pending = s.pending := rfl
@[simp] theorem setSchedule_responses (k : Schedule) (s : State) : (setSchedule k s).responses = s.responses := rfl
@[simp] theorem setSchedule_resets (k : Schedule) (s : State) : (setSchedule k s).resets = s.resets := rfl

/-! ### `emitAll`: events go to TRACE only (R271) -/

@[simp] theorem emitAll_key (es : List Event) (s : State) : (emitAll es s).key = s.key := rfl
@[simp] theorem emitAll_din (es : List Event) (s : State) : (emitAll es s).din = s.din := rfl
@[simp] theorem emitAll_dout (es : List Event) (s : State) : (emitAll es s).dout = s.dout := rfl
@[simp] theorem emitAll_state (es : List Event) (s : State) : (emitAll es s).state = s.state := rfl
@[simp] theorem emitAll_rk (es : List Event) (s : State) : (emitAll es s).rk = s.rk := rfl
@[simp] theorem emitAll_kv (es : List Event) (s : State) : (emitAll es s).kv = s.kv := rfl
@[simp] theorem emitAll_err (es : List Event) (s : State) : (emitAll es s).err = s.err := rfl
@[simp] theorem emitAll_errcode (es : List Event) (s : State) : (emitAll es s).errcode = s.errcode := rfl
@[simp] theorem emitAll_traceEn (es : List Event) (s : State) : (emitAll es s).traceEn = s.traceEn := rfl
@[simp] theorem emitAll_klen (es : List Event) (s : State) : (emitAll es s).klen = s.klen := rfl
@[simp] theorem emitAll_blen (es : List Event) (s : State) : (emitAll es s).blen = s.blen := rfl
@[simp] theorem emitAll_rksel (es : List Event) (s : State) : (emitAll es s).rksel = s.rksel := rfl
@[simp] theorem emitAll_stage (es : List Event) (s : State) : (emitAll es s).stage = s.stage := rfl
@[simp] theorem emitAll_gfA (es : List Event) (s : State) : (emitAll es s).gfA = s.gfA := rfl
@[simp] theorem emitAll_gfB (es : List Event) (s : State) : (emitAll es s).gfB = s.gfB := rfl
@[simp] theorem emitAll_gfP (es : List Event) (s : State) : (emitAll es s).gfP = s.gfP := rfl
@[simp] theorem emitAll_sboxIn (es : List Event) (s : State) : (emitAll es s).sboxIn = s.sboxIn := rfl
@[simp] theorem emitAll_sboxOut (es : List Event) (s : State) : (emitAll es s).sboxOut = s.sboxOut := rfl
@[simp] theorem emitAll_trace (es : List Event) (s : State) : (emitAll es s).trace = s.trace ++ (if s.traceEn then es else []) := rfl
@[simp] theorem emitAll_pending (es : List Event) (s : State) : (emitAll es s).pending = s.pending := rfl
@[simp] theorem emitAll_responses (es : List Event) (s : State) : (emitAll es s).responses = s.responses := rfl
@[simp] theorem emitAll_resets (es : List Event) (s : State) : (emitAll es s).resets = s.resets := rfl

/-! ### `respond`: a read answers the host (R292) -/

@[simp] theorem respond_key (b : Byte) (s : State) : (respond b s).key = s.key := rfl
@[simp] theorem respond_din (b : Byte) (s : State) : (respond b s).din = s.din := rfl
@[simp] theorem respond_dout (b : Byte) (s : State) : (respond b s).dout = s.dout := rfl
@[simp] theorem respond_state (b : Byte) (s : State) : (respond b s).state = s.state := rfl
@[simp] theorem respond_rk (b : Byte) (s : State) : (respond b s).rk = s.rk := rfl
@[simp] theorem respond_kv (b : Byte) (s : State) : (respond b s).kv = s.kv := rfl
@[simp] theorem respond_err (b : Byte) (s : State) : (respond b s).err = s.err := rfl
@[simp] theorem respond_errcode (b : Byte) (s : State) : (respond b s).errcode = s.errcode := rfl
@[simp] theorem respond_traceEn (b : Byte) (s : State) : (respond b s).traceEn = s.traceEn := rfl
@[simp] theorem respond_klen (b : Byte) (s : State) : (respond b s).klen = s.klen := rfl
@[simp] theorem respond_blen (b : Byte) (s : State) : (respond b s).blen = s.blen := rfl
@[simp] theorem respond_rksel (b : Byte) (s : State) : (respond b s).rksel = s.rksel := rfl
@[simp] theorem respond_stage (b : Byte) (s : State) : (respond b s).stage = s.stage := rfl
@[simp] theorem respond_gfA (b : Byte) (s : State) : (respond b s).gfA = s.gfA := rfl
@[simp] theorem respond_gfB (b : Byte) (s : State) : (respond b s).gfB = s.gfB := rfl
@[simp] theorem respond_gfP (b : Byte) (s : State) : (respond b s).gfP = s.gfP := rfl
@[simp] theorem respond_sboxIn (b : Byte) (s : State) : (respond b s).sboxIn = s.sboxIn := rfl
@[simp] theorem respond_sboxOut (b : Byte) (s : State) : (respond b s).sboxOut = s.sboxOut := rfl
@[simp] theorem respond_trace (b : Byte) (s : State) : (respond b s).trace = s.trace := rfl
@[simp] theorem respond_pending (b : Byte) (s : State) : (respond b s).pending = s.pending := rfl
@[simp] theorem respond_responses (b : Byte) (s : State) : (respond b s).responses = s.responses ++ [b] := rfl
@[simp] theorem respond_resets (b : Byte) (s : State) : (respond b s).resets = s.resets := rfl

/-! ### `loadBlock`: `STATE <- encode(DIN)` (R164) -/

@[simp] theorem loadBlock_key (s : State) : (loadBlock s).key = s.key := rfl
@[simp] theorem loadBlock_din (s : State) : (loadBlock s).din = s.din := rfl
@[simp] theorem loadBlock_dout (s : State) : (loadBlock s).dout = s.dout := rfl
@[simp] theorem loadBlock_state (s : State) : (loadBlock s).state = encodeBlock s.din := rfl
@[simp] theorem loadBlock_rk (s : State) : (loadBlock s).rk = s.rk := rfl
@[simp] theorem loadBlock_kv (s : State) : (loadBlock s).kv = s.kv := rfl
@[simp] theorem loadBlock_err (s : State) : (loadBlock s).err = s.err := rfl
@[simp] theorem loadBlock_errcode (s : State) : (loadBlock s).errcode = s.errcode := rfl
@[simp] theorem loadBlock_traceEn (s : State) : (loadBlock s).traceEn = s.traceEn := rfl
@[simp] theorem loadBlock_klen (s : State) : (loadBlock s).klen = s.klen := rfl
@[simp] theorem loadBlock_blen (s : State) : (loadBlock s).blen = s.blen := rfl
@[simp] theorem loadBlock_rksel (s : State) : (loadBlock s).rksel = s.rksel := rfl
@[simp] theorem loadBlock_stage (s : State) : (loadBlock s).stage = s.stage := rfl
@[simp] theorem loadBlock_gfA (s : State) : (loadBlock s).gfA = s.gfA := rfl
@[simp] theorem loadBlock_gfB (s : State) : (loadBlock s).gfB = s.gfB := rfl
@[simp] theorem loadBlock_gfP (s : State) : (loadBlock s).gfP = s.gfP := rfl
@[simp] theorem loadBlock_sboxIn (s : State) : (loadBlock s).sboxIn = s.sboxIn := rfl
@[simp] theorem loadBlock_sboxOut (s : State) : (loadBlock s).sboxOut = s.sboxOut := rfl
@[simp] theorem loadBlock_trace (s : State) : (loadBlock s).trace = s.trace := rfl
@[simp] theorem loadBlock_pending (s : State) : (loadBlock s).pending = s.pending := rfl
@[simp] theorem loadBlock_responses (s : State) : (loadBlock s).responses = s.responses := rfl
@[simp] theorem loadBlock_resets (s : State) : (loadBlock s).resets = s.resets := rfl

/-! ### `storeBlock`: `DOUT <- decode(STATE)` (R164) -/

@[simp] theorem storeBlock_key (s : State) : (storeBlock s).key = s.key := rfl
@[simp] theorem storeBlock_din (s : State) : (storeBlock s).din = s.din := rfl
@[simp] theorem storeBlock_dout (s : State) : (storeBlock s).dout = decodeMatrix s.state := rfl
@[simp] theorem storeBlock_state (s : State) : (storeBlock s).state = s.state := rfl
@[simp] theorem storeBlock_rk (s : State) : (storeBlock s).rk = s.rk := rfl
@[simp] theorem storeBlock_kv (s : State) : (storeBlock s).kv = s.kv := rfl
@[simp] theorem storeBlock_err (s : State) : (storeBlock s).err = s.err := rfl
@[simp] theorem storeBlock_errcode (s : State) : (storeBlock s).errcode = s.errcode := rfl
@[simp] theorem storeBlock_traceEn (s : State) : (storeBlock s).traceEn = s.traceEn := rfl
@[simp] theorem storeBlock_klen (s : State) : (storeBlock s).klen = s.klen := rfl
@[simp] theorem storeBlock_blen (s : State) : (storeBlock s).blen = s.blen := rfl
@[simp] theorem storeBlock_rksel (s : State) : (storeBlock s).rksel = s.rksel := rfl
@[simp] theorem storeBlock_stage (s : State) : (storeBlock s).stage = s.stage := rfl
@[simp] theorem storeBlock_gfA (s : State) : (storeBlock s).gfA = s.gfA := rfl
@[simp] theorem storeBlock_gfB (s : State) : (storeBlock s).gfB = s.gfB := rfl
@[simp] theorem storeBlock_gfP (s : State) : (storeBlock s).gfP = s.gfP := rfl
@[simp] theorem storeBlock_sboxIn (s : State) : (storeBlock s).sboxIn = s.sboxIn := rfl
@[simp] theorem storeBlock_sboxOut (s : State) : (storeBlock s).sboxOut = s.sboxOut := rfl
@[simp] theorem storeBlock_trace (s : State) : (storeBlock s).trace = s.trace := rfl
@[simp] theorem storeBlock_pending (s : State) : (storeBlock s).pending = s.pending := rfl
@[simp] theorem storeBlock_responses (s : State) : (storeBlock s).responses = s.responses := rfl
@[simp] theorem storeBlock_resets (s : State) : (storeBlock s).resets = s.resets := rfl

/-! ### `transformState`: one stepwise transformation (R188 to R191) -/

@[simp] theorem transformState_key (k : EventKind) (i : Byte) (m : Matrix) (s : State) : (transformState k i m s).key = s.key := rfl
@[simp] theorem transformState_din (k : EventKind) (i : Byte) (m : Matrix) (s : State) : (transformState k i m s).din = s.din := rfl
@[simp] theorem transformState_dout (k : EventKind) (i : Byte) (m : Matrix) (s : State) : (transformState k i m s).dout = s.dout := rfl
@[simp] theorem transformState_state (k : EventKind) (i : Byte) (m : Matrix) (s : State) : (transformState k i m s).state = m := rfl
@[simp] theorem transformState_rk (k : EventKind) (i : Byte) (m : Matrix) (s : State) : (transformState k i m s).rk = s.rk := rfl
@[simp] theorem transformState_kv (k : EventKind) (i : Byte) (m : Matrix) (s : State) : (transformState k i m s).kv = s.kv := rfl
@[simp] theorem transformState_err (k : EventKind) (i : Byte) (m : Matrix) (s : State) : (transformState k i m s).err = s.err := rfl
@[simp] theorem transformState_errcode (k : EventKind) (i : Byte) (m : Matrix) (s : State) : (transformState k i m s).errcode = s.errcode := rfl
@[simp] theorem transformState_traceEn (k : EventKind) (i : Byte) (m : Matrix) (s : State) : (transformState k i m s).traceEn = s.traceEn := rfl
@[simp] theorem transformState_klen (k : EventKind) (i : Byte) (m : Matrix) (s : State) : (transformState k i m s).klen = s.klen := rfl
@[simp] theorem transformState_blen (k : EventKind) (i : Byte) (m : Matrix) (s : State) : (transformState k i m s).blen = s.blen := rfl
@[simp] theorem transformState_rksel (k : EventKind) (i : Byte) (m : Matrix) (s : State) : (transformState k i m s).rksel = s.rksel := rfl
@[simp] theorem transformState_stage (k : EventKind) (i : Byte) (m : Matrix) (s : State) : (transformState k i m s).stage = s.stage := rfl
@[simp] theorem transformState_gfA (k : EventKind) (i : Byte) (m : Matrix) (s : State) : (transformState k i m s).gfA = s.gfA := rfl
@[simp] theorem transformState_gfB (k : EventKind) (i : Byte) (m : Matrix) (s : State) : (transformState k i m s).gfB = s.gfB := rfl
@[simp] theorem transformState_gfP (k : EventKind) (i : Byte) (m : Matrix) (s : State) : (transformState k i m s).gfP = s.gfP := rfl
@[simp] theorem transformState_sboxIn (k : EventKind) (i : Byte) (m : Matrix) (s : State) : (transformState k i m s).sboxIn = s.sboxIn := rfl
@[simp] theorem transformState_sboxOut (k : EventKind) (i : Byte) (m : Matrix) (s : State) : (transformState k i m s).sboxOut = s.sboxOut := rfl
@[simp] theorem transformState_trace (k : EventKind) (i : Byte) (m : Matrix) (s : State) : (transformState k i m s).trace =
    s.trace ++ (if s.traceEn then [matrixEvent k i s.state m] else []) := rfl
@[simp] theorem transformState_pending (k : EventKind) (i : Byte) (m : Matrix) (s : State) : (transformState k i m s).pending = s.pending := rfl
@[simp] theorem transformState_responses (k : EventKind) (i : Byte) (m : Matrix) (s : State) : (transformState k i m s).responses = s.responses := rfl
@[simp] theorem transformState_resets (k : EventKind) (i : Byte) (m : Matrix) (s : State) : (transformState k i m s).resets = s.resets := rfl

/-! ### `runKeySchedule`: the body of EXPAND_KEY (R216) -/

@[simp] theorem runKeySchedule_key (s : State) : (runKeySchedule s).key = s.key := rfl
@[simp] theorem runKeySchedule_din (s : State) : (runKeySchedule s).din = s.din := rfl
@[simp] theorem runKeySchedule_dout (s : State) : (runKeySchedule s).dout = s.dout := rfl
@[simp] theorem runKeySchedule_state (s : State) : (runKeySchedule s).state = s.state := rfl
@[simp] theorem runKeySchedule_rk (s : State) : (runKeySchedule s).rk = expandKey s.key := rfl
@[simp] theorem runKeySchedule_kv (s : State) : (runKeySchedule s).kv = true := rfl
@[simp] theorem runKeySchedule_err (s : State) : (runKeySchedule s).err = s.err := rfl
@[simp] theorem runKeySchedule_errcode (s : State) : (runKeySchedule s).errcode = s.errcode := rfl
@[simp] theorem runKeySchedule_traceEn (s : State) : (runKeySchedule s).traceEn = s.traceEn := rfl
@[simp] theorem runKeySchedule_klen (s : State) : (runKeySchedule s).klen = s.klen := rfl
@[simp] theorem runKeySchedule_blen (s : State) : (runKeySchedule s).blen = s.blen := rfl
@[simp] theorem runKeySchedule_rksel (s : State) : (runKeySchedule s).rksel = s.rksel := rfl
@[simp] theorem runKeySchedule_stage (s : State) : (runKeySchedule s).stage = s.stage := rfl
@[simp] theorem runKeySchedule_gfA (s : State) : (runKeySchedule s).gfA = s.gfA := rfl
@[simp] theorem runKeySchedule_gfB (s : State) : (runKeySchedule s).gfB = s.gfB := rfl
@[simp] theorem runKeySchedule_gfP (s : State) : (runKeySchedule s).gfP = s.gfP := rfl
@[simp] theorem runKeySchedule_sboxIn (s : State) : (runKeySchedule s).sboxIn = s.sboxIn := rfl
@[simp] theorem runKeySchedule_sboxOut (s : State) : (runKeySchedule s).sboxOut = s.sboxOut := rfl
@[simp] theorem runKeySchedule_trace (s : State) : (runKeySchedule s).trace =
    s.trace ++ (if s.traceEn then expandEvents s.key else []) := rfl
@[simp] theorem runKeySchedule_pending (s : State) : (runKeySchedule s).pending = s.pending := rfl
@[simp] theorem runKeySchedule_responses (s : State) : (runKeySchedule s).responses = s.responses := rfl
@[simp] theorem runKeySchedule_resets (s : State) : (runKeySchedule s).resets = s.resets := rfl

/-! ### `runStage`: one pipeline stage (R240, R252) -/

@[simp] theorem runStage_key (n : Fin 11) (s : State) : (runStage n s).key = s.key := rfl
@[simp] theorem runStage_din (n : Fin 11) (s : State) : (runStage n s).din = s.din := rfl
@[simp] theorem runStage_dout (n : Fin 11) (s : State) : (runStage n s).dout = s.dout := rfl
@[simp] theorem runStage_state (n : Fin 11) (s : State) : (runStage n s).state = Machine.stage n s.state s.rk := rfl
@[simp] theorem runStage_rk (n : Fin 11) (s : State) : (runStage n s).rk = s.rk := rfl
@[simp] theorem runStage_kv (n : Fin 11) (s : State) : (runStage n s).kv = s.kv := rfl
@[simp] theorem runStage_err (n : Fin 11) (s : State) : (runStage n s).err = s.err := rfl
@[simp] theorem runStage_errcode (n : Fin 11) (s : State) : (runStage n s).errcode = s.errcode := rfl
@[simp] theorem runStage_traceEn (n : Fin 11) (s : State) : (runStage n s).traceEn = s.traceEn := rfl
@[simp] theorem runStage_klen (n : Fin 11) (s : State) : (runStage n s).klen = s.klen := rfl
@[simp] theorem runStage_blen (n : Fin 11) (s : State) : (runStage n s).blen = s.blen := rfl
@[simp] theorem runStage_rksel (n : Fin 11) (s : State) : (runStage n s).rksel = s.rksel := rfl
@[simp] theorem runStage_stage (n : Fin 11) (s : State) : (runStage n s).stage = s.stage := rfl
@[simp] theorem runStage_gfA (n : Fin 11) (s : State) : (runStage n s).gfA = s.gfA := rfl
@[simp] theorem runStage_gfB (n : Fin 11) (s : State) : (runStage n s).gfB = s.gfB := rfl
@[simp] theorem runStage_gfP (n : Fin 11) (s : State) : (runStage n s).gfP = s.gfP := rfl
@[simp] theorem runStage_sboxIn (n : Fin 11) (s : State) : (runStage n s).sboxIn = s.sboxIn := rfl
@[simp] theorem runStage_sboxOut (n : Fin 11) (s : State) : (runStage n s).sboxOut = s.sboxOut := rfl
@[simp] theorem runStage_trace (n : Fin 11) (s : State) : (runStage n s).trace =
    s.trace ++ (if s.traceEn then stageEvents n s.state s.rk else []) := rfl
@[simp] theorem runStage_pending (n : Fin 11) (s : State) : (runStage n s).pending = s.pending := rfl
@[simp] theorem runStage_responses (n : Fin 11) (s : State) : (runStage n s).responses = s.responses := rfl
@[simp] theorem runStage_resets (n : Fin 11) (s : State) : (runStage n s).resets = s.resets := rfl

end Sys2Proof.Machine
end

