-- ==== Sys2Proof/Laws/Ops.lean ====
section
/-! SUPPORT. One lemma per shared operation that says everything it can do; proofs cite these instead of unfolding. -/

namespace Sys2Proof.Machine

/-! ### Codec and matrices -/

@[simp] theorem matrixOf_get (f : Fin 4 → Fin 4 → Byte) (r c : Nat) (hr : r < 4) (hc : c < 4) :
    (matrixOf f)[r][c] = f ⟨r, hr⟩ ⟨c, hc⟩ := by simp [matrixOf]

@[simp] theorem encodeBlock_get (b : Block) (r c : Nat) (hr : r < 4) (hc : c < 4) :
    (encodeBlock b)[r][c] = b[r + 4 * c] := by simp [encodeBlock]

@[simp] theorem decodeMatrix_get (m : Matrix) (i : Nat) (h : i < 16) :
    (decodeMatrix m)[i] = m[i % 4][i / 4] := by simp [decodeMatrix]

theorem matrix_ext {m n : Matrix} (h : ∀ r c (hr : r < 4) (hc : c < 4), m[r][c] = n[r][c]) : m = n := by
  apply Vector.ext
  intro r hr
  apply Vector.ext
  intro c hc
  exact h r c hr hc

@[simp] theorem column_get (m : Matrix) (c : Fin 4) (r : Nat) (hr : r < 4) : (column m c)[r] = m[r][c] := by
  simp [column]

@[simp] theorem subBytes_get (s : Matrix) (r c : Nat) (hr : r < 4) (hc : c < 4) :
    (subBytes s)[r][c] = sbox s[r][c] := by simp [subBytes]

@[simp] theorem shiftRows_get (s : Matrix) (r c : Nat) (hr : r < 4) (hc : c < 4) :
    (shiftRows s)[r][c] = s[r][(c + r) % 4] := by simp [shiftRows]

@[simp] theorem addRoundKey_get (s k : Matrix) (r c : Nat) (hr : r < 4) (hc : c < 4) :
    (addRoundKey s k)[r][c] = s[r][c] ^^^ k[r][c] := by simp [addRoundKey]

/-! ### The selected round key -/

theorem selectedKey_some {s : State} (h : s.rksel.toNat < 11) : selectedKey s = some s.rk[s.rksel.toNat] := by
  simp [selectedKey, h]

theorem selectedKey_none {s : State} (h : 10 < s.rksel.toNat) : selectedKey s = none := by
  simp only [selectedKey, Vector.getElem?_eq_none_iff]
  omega

/-! ### Trace events -/

@[simp] theorem emitAll_nil (s : State) : emitAll [] s = s := by
  cases h : s.traceEn <;> simp [emitAll]

/-- Emitting two lists in turn is emitting one. -/
theorem emitAll_emitAll (es fs : List Event) (s : State) : emitAll fs (emitAll es s) = emitAll (es ++ fs) s := by
  cases h : s.traceEn <;> simp [emitAll, h]

/-! ### Registers -/

/-- A write to a register never touches what only commands write, nor the host's side. -/
theorem writeReg_frame (d : Byte) (s : State) (r : Reg) :
    (writeReg d s r).dout = s.dout ∧ (writeReg d s r).state = s.state ∧ (writeReg d s r).rk = s.rk ∧
    (writeReg d s r).errcode = s.errcode ∧ (writeReg d s r).stage = s.stage ∧ (writeReg d s r).gfP = s.gfP ∧
    (writeReg d s r).sboxOut = s.sboxOut ∧ (writeReg d s r).trace = s.trace ∧
    (writeReg d s r).pending = s.pending ∧ (writeReg d s r).responses = s.responses ∧
    (writeReg d s r).resets = s.resets := by
  cases r <;> simp [writeReg]

/-- Only a KEY write changes KEY or KV, and it clears KV. -/
theorem writeReg_key (d : Byte) (s : State) (r : Reg) :
    ((writeReg d s r).key = s.key ∧ (writeReg d s r).kv = s.kv) ∨
    (∃ i, r = .key i ∧ (writeReg d s r).key = s.key.set i d ∧ (writeReg d s r).kv = false) := by
  cases r <;> simp [writeReg]

/-! ### Reset -/

/-- Reset leaves the reset state in every field but RK, and keeps the host's side. -/
theorem resetPin_eq (s : State) :
    resetPin s = { State.reset with
      rk := Config.rkAfterReset s.resets, pending := s.pending, responses := s.responses,
      resets := s.resets + 1 } := rfl

end Sys2Proof.Machine
end

