-- ==== Sys2Proof/Laws/Exec.lean ====
section
/-! SUPPORT. Everything a command can do, said once: it raises the error its checks find first, or it completes with its
effect (`exec_command`). A bus access reads, writes one register, or runs a command (`exec_cases`). -/

namespace Sys2Proof.Machine

/-- The error a command's checks find first (R318), if any. -/
def failureOf (s : State) : Instr → Option ErrorCode
  | .expandKey => if s.klen = 16#8 then none else some .invalidKeyLength
  | .encrypt =>
    if s.blen = 16#8 then if s.klen = 16#8 then none else some .invalidKeyLength else some .invalidBlockLength
  | .loadState => if s.blen = 16#8 then none else some .invalidBlockLength
  | .addRoundKey =>
    if s.kv then if s.rksel.toNat < 11 then none else some .badRoundIndex else some .noSchedule
  | .nextStage => if s.kv then if s.stage.val < 11 then none else some .sequence else some .noSchedule
  | _ => none

/-- What a command does before it completes, when no check fails. -/
def effectOf (s : State) : Instr → State
  | .expandKey => runKeySchedule s
  | .encrypt => setStage 11 (storeBlock (runPipeline (loadBlock (runKeySchedule s))))
  | .loadState => setStage 0 (loadBlock s)
  | .subBytes => transformState .subBytes noIndex (subBytes s.state) s
  | .shiftRows => transformState .shiftRows noIndex (shiftRows s.state) s
  | .mixColumns => transformState .mixColumns noIndex (mixColumns s.state) s
  | .addRoundKey =>
    match selectedKey s with
    | some k => transformState .addRoundKey s.rksel (addRoundKey s.state k) s
    | none => s
  | .storeState => storeBlock s
  | .nextStage =>
    if h : s.stage.val < 11 then
      setStage ⟨s.stage.val + 1, Nat.succ_lt_succ h⟩ (runStage ⟨s.stage.val, h⟩ s)
    else s
  | .gfMul => { s with gfP := gmul s.gfA s.gfB }
  | .sboxLookup => { s with sboxOut := sbox s.sboxIn }
  | _ => s

/-- The whole behaviour of a command. -/
theorem exec_command {i : Instr} (hi : i.isCommand = true) (s : State) :
    exec i s = .next (match failureOf s i with
      | some e => raiseError e s
      | none => complete (effectOf s i)) := by
  cases i with
  | busRead => simp [Instr.isCommand] at hi
  | busWrite => simp [Instr.isCommand] at hi
  | expandKey => by_cases hk : s.klen = 16#8 <;> simp [exec, execExpandKey, failureOf, effectOf, hk]
  | loadState => by_cases hb : s.blen = 16#8 <;> simp [exec, execLoadState, failureOf, effectOf, hb]
  | encrypt =>
    by_cases hb : s.blen = 16#8 <;> by_cases hk : s.klen = 16#8 <;> simp [exec, execEncrypt, failureOf, effectOf, hb, hk]
  | addRoundKey =>
    simp only [exec, execAddRoundKey, failureOf]
    by_cases hk : s.kv = true
    · by_cases hr : s.rksel.toNat < 11
      · simp [hk, hr, selectedKey_some hr, effectOf]
      · simp [hk, hr, selectedKey_none (s := s) (by omega)]
    · simp [hk]
  | nextStage =>
    simp only [exec, execNextStage, failureOf]
    by_cases hk : s.kv = true
    · by_cases hs : s.stage.val < 11 <;> simp [hk, hs, effectOf]
    · simp [hk]
  | _ => rfl

/-- A command that raises an error. -/
theorem exec_failure {i : Instr} {s : State} {e : ErrorCode} (hi : i.isCommand = true) (h : failureOf s i = some e) :
    exec i s = .next (raiseError e s) := by rw [exec_command hi, h]

/-- A command that completes. -/
theorem exec_success {i : Instr} {s : State} (hi : i.isCommand = true) (h : failureOf s i = none) :
    exec i s = .next (complete (effectOf s i)) := by rw [exec_command hi, h]

/-- The decoder of command bytes names commands only. -/
theorem decodeCommand_isCommand {op : Byte} {i : Instr} (h : decodeCommand op = .ok i) : i.isCommand = true := by
  unfold decodeCommand at h
  split at h <;> cases h <;> rfl

/-- R296: the dispatch of a CMD write, through the decoder of command bytes. -/
theorem executeCommand_eq (op : Byte) (s : State) :
    executeCommand op s = match decodeCommand op with
      | .ok i => exec i s
      | .error _ => .next (raiseError .illegalCommand s) := by
  unfold executeCommand
  split
  case h_13 =>
    have h : decodeCommand op = .error (.illegalCommand op) := by
      unfold decodeCommand
      split <;> first | rfl | contradiction
    rw [h]
  all_goals rfl

theorem regAt_cmd_iff (a : Byte) : regAt a = .cmd ↔ a = 0x50 := by
  revert a; decide +kernel

/-- A write to a register other than CMD. -/
theorem exec_busWrite_reg {a : Byte} (h : a ≠ 0x50) (d : Byte) (s : State) :
    exec (.busWrite a d) s = .next (writeReg d s (regAt a)) := by
  have h' : regAt a ≠ .cmd := fun hc => h ((regAt_cmd_iff a).1 hc)
  simp only [exec, execBusWrite]

/-- A write to CMD. -/
theorem exec_busWrite_cmd (d : Byte) (s : State) :
    exec (.busWrite 0x50 d) s = match decodeCommand d with
      | .ok i => exec i s
      | .error _ => .next (raiseError .illegalCommand s) := by
  rw [← executeCommand_eq]; rfl

/-- A write of an undefined byte to CMD. -/
theorem exec_busWrite_illegal {d : Byte} {e : CommandError} (h : decodeCommand d = .error e) (s : State) :
    exec (.busWrite 0x50 d) s = .next (raiseError .illegalCommand s) := by
  rw [exec_busWrite_cmd, h]

/-- What any instruction can do: read, write a register, be turned away as an illegal command, or run a command. -/
theorem exec_cases (i : Instr) (s : State) :
    (∃ a, i = .busRead a ∧ exec i s = .next (respond (readRegister s a) s)) ∨
    (∃ a d, i = .busWrite a d ∧ a ≠ 0x50 ∧ exec i s = .next (writeReg d s (regAt a))) ∨
    (∃ d e, i = .busWrite 0x50 d ∧ decodeCommand d = .error e ∧ exec i s = .next (raiseError .illegalCommand s)) ∨
    (∃ c : Instr, c.isCommand = true ∧ (i = c ∨ ∃ d, i = .busWrite 0x50 d ∧ decodeCommand d = .ok c) ∧
      exec i s = exec c s) := by
  by_cases hc : i.isCommand = true
  · exact .inr (.inr (.inr ⟨i, hc, .inl rfl, rfl⟩))
  · cases i with
    | busRead a => exact .inl ⟨a, rfl, rfl⟩
    | busWrite a d =>
      by_cases ha : a = 0x50
      · subst ha
        have he := exec_busWrite_cmd d s
        cases hd : decodeCommand d with
        | ok c =>
          rw [hd] at he
          exact .inr (.inr (.inr ⟨c, decodeCommand_isCommand hd, .inr ⟨d, rfl, hd⟩, he⟩))
        | error e =>
          rw [hd] at he
          exact .inr (.inr (.inl ⟨d, e, rfl, hd, he⟩))
      · exact .inr (.inl ⟨a, d, rfl, ha, exec_busWrite_reg ha d s⟩)
    | _ => exact absurd rfl hc

end Sys2Proof.Machine
end

