-- ==== Sys2Proof/Laws/Cipher.lean ====
section
/-! SUPPORT. What the pipeline does to the state, said once (`runPipeline_eq`), and how lists of instructions run. -/

namespace Sys2Proof.Machine

/-- The events of the stages of a list, run one after the other from `m`. -/
def foldEvents (rk : Schedule) : List (Fin 11) → Matrix → List Event
  | [], _ => []
  | n :: l, m => stageEvents n m rk ++ foldEvents rk l (stage n m rk)

/-- Running stages only changes STATE, by the pure stages, and appends their events. -/
theorem foldl_runStage (l : List (Fin 11)) (s : State) :
    l.foldl (fun t n => runStage n t) s =
      setState (l.foldl (fun m n => stage n m s.rk) s.state) (emitAll (foldEvents s.rk l s.state) s) := by
  induction l generalizing s with
  | nil => simp [setState, foldEvents]
  | cons n l ih =>
    simp only [List.foldl_cons, ih, runStage_rk, runStage_state, foldEvents]
    rw [← emitAll_emitAll]
    rfl

theorem foldEvents_finRange (m : Matrix) (rk : Schedule) :
    foldEvents rk (List.finRange 11) m = pipelineEvents m rk := by
  have h : List.finRange 11 = [0, 1, 2, 3, 4, 5, 6, 7, 8, 9, 10] := by decide
  simp only [pipelineEvents, stageInput, h]
  simp [foldEvents]

/-- R245: the eleven stages of a command change STATE and TRACE only. -/
theorem runPipeline_eq (s : State) :
    runPipeline s = setState (pipeline s.state s.rk) (emitAll (pipelineEvents s.state s.rk) s) := by
  rw [runPipeline, foldl_runStage, foldEvents_finRange, pipeline]

theorem execAll_cons {i : Instr} {l : List Instr} {s t : State} (h : exec i s = .next t) :
    execAll (i :: l) s = execAll l t := by
  simp [execAll, h]

/-- The first part of a list runs before the rest. -/
theorem execAll_append (l m : List Instr) (s t : State) (h : execAll l s = .next t) :
    execAll (l ++ m) s = execAll m t := by
  induction l generalizing s with
  | nil => cases h; rfl
  | cons i l ih =>
    simp only [execAll, List.cons_append] at h ⊢
    split at h
    · exact ih _ h
    · cases h
    · cases h

/-- R250: one NEXT_STAGE that does not fail. -/
theorem exec_nextStage {s : State} (n : Fin 11) (hk : s.kv = true) (hn : s.stage = n.castSucc) :
    exec .nextStage s = .next (complete (setStage n.succ (runStage n s))) := by
  have hl : s.stage.val < 11 := by rw [hn]; exact n.isLt
  have e : (⟨s.stage.val, hl⟩ : Fin 11) = n := by ext; simp [hn]
  have e2 : (⟨s.stage.val + 1, Nat.succ_lt_succ hl⟩ : Fin 12) = n.succ := by ext; simp [hn]
  rw [exec_success rfl (by simp [failureOf, hk, hl])]
  simp only [effectOf, hl, dif_pos, e, e2]

end Sys2Proof.Machine
end

