-- ==== Sys2Proof/Laws/Decode.lean ====
section
/-! SUPPORT. The fields of a transaction word (R100): a word built from fields has those fields, and is built from its
own. -/

namespace Sys2Proof

@[simp] theorem txnWrite_txnOf (w : Bool) (a d : Byte) : txnWrite (txnOf w a d) = w := by
  cases w <;> simp [txnWrite, txnOf]

@[simp] theorem txnAddr_txnOf (w : Bool) (a d : Byte) : txnAddr (txnOf w a d) = a := by
  ext i hi
  interval_cases i <;> cases w <;> simp [txnAddr, txnOf]

@[simp] theorem txnData_txnOf (w : Bool) (a d : Byte) : txnData (txnOf w a d) = d := by
  ext i hi
  interval_cases i <;> cases w <;> simp [txnData, txnOf]

theorem txnOf_eta (w : Txn) : txnOf (txnWrite w) (txnAddr w) (txnData w) = w := by
  ext i hi
  interval_cases i <;> simp [txnOf, txnWrite, txnAddr, txnData]

/-- A command byte that decodes is the opcode of what it decodes to. -/
theorem encodeCommand_of_decodeCommand {op : Byte} {i : Instr} (h : decodeCommand op = .ok i) :
    encodeCommand i = some op := by
  unfold decodeCommand at h
  split at h <;> cases h <;> rfl

/-- R100: a canonical word decodes. -/
theorem decode_canonical {w : Txn} (h : txnCanonical w = true) : ∃ i, decode w = .ok i := by
  unfold decode
  cases hw : txnWrite w
  · have hd : txnData w = 0 := by simpa [txnCanonical, hw] using h
    exact ⟨.busRead (txnAddr w), by simp [hd]⟩
  · simp only [if_true]
    split
    · split
      · exact ⟨_, rfl⟩
      · exact ⟨_, rfl⟩
    · exact ⟨_, rfl⟩

end Sys2Proof
end

