-- ==== Sys2Proof/Laws/PerInstr.lean ====
section
/-! SUPPORT. Statements about every instruction as syntax, one lemma per constructor. -/

/-- R100: the encoding of an instruction is a canonical transaction word. -/
def Sys2Proof.Laws.EncodeCanonical.Statement (i : Sys2Proof.Instr) : Prop :=
  Sys2Proof.txnCanonical (Sys2Proof.encode i) = true

namespace Sys2Proof.Laws.EncodeCanonical

theorem nop : Statement .nop := by unfold Statement; decide
theorem expandKey : Statement .expandKey := by unfold Statement; decide
theorem encrypt : Statement .encrypt := by unfold Statement; decide
theorem loadState : Statement .loadState := by unfold Statement; decide
theorem subBytes : Statement .subBytes := by unfold Statement; decide
theorem shiftRows : Statement .shiftRows := by unfold Statement; decide
theorem mixColumns : Statement .mixColumns := by unfold Statement; decide
theorem addRoundKey : Statement .addRoundKey := by unfold Statement; decide
theorem storeState : Statement .storeState := by unfold Statement; decide
theorem nextStage : Statement .nextStage := by unfold Statement; decide
theorem gfMul : Statement .gfMul := by unfold Statement; decide
theorem sboxLookup : Statement .sboxLookup := by unfold Statement; decide
theorem busRead (addr : Byte) : Statement (.busRead addr) := by
  simp [Statement, encode, encodeCommand, txnCanonical]
theorem busWrite (addr data : Byte) : Statement (.busWrite addr data) := by
  simp [Statement, encode, encodeCommand, txnCanonical]

end Sys2Proof.Laws.EncodeCanonical
end

