-- ==== Sys2Proof/Laws/Run.lean ====
section
/-! SUPPORT. What every instruction does to the host's side, and how a relation kept by each step is kept by runs. -/

namespace Sys2Proof.Machine

/-- R299: every instruction answers a next state. -/
theorem exec_next (i : Instr) (s : State) : ∃ t, exec i s = .next t := by
  rcases exec_cases i s with ⟨_, _, h⟩ | ⟨_, _, _, _, h⟩ | ⟨_, _, _, _, h⟩ | ⟨_, hc, _, h⟩
  · exact ⟨_, h⟩
  · exact ⟨_, h⟩
  · exact ⟨_, h⟩
  · exact ⟨_, h.trans (exec_command hc s)⟩

/-- The two ways a command ends. -/
theorem exec_command_cases {i : Instr} {s t : State} (hi : i.isCommand = true) (h : exec i s = .next t) :
    (failureOf s i = none ∧ t = complete (effectOf s i)) ∨ (∃ e, failureOf s i = some e ∧ t = raiseError e s) := by
  rw [exec_command hi] at h
  cases hf : failureOf s i with
  | none => rw [hf] at h; cases h; exact .inl ⟨rfl, rfl⟩
  | some e => rw [hf] at h; cases h; exact .inr ⟨e, rfl, rfl⟩

/-- A check of NEXT_STAGE or ADD_ROUND_KEY that passed. -/
theorem failureOf_nextStage {s : State} (h : failureOf s .nextStage = none) : s.kv = true ∧ s.stage.val < 11 := by
  simp only [failureOf] at h
  split at h <;> [split at h; skip] <;> cases h
  exact ⟨‹_›, ‹_›⟩

theorem failureOf_addRoundKey {s : State} (h : failureOf s .addRoundKey = none) :
    s.kv = true ∧ s.rksel.toNat < 11 := by
  simp only [failureOf] at h
  split at h <;> [split at h; skip] <;> cases h
  exact ⟨‹_›, ‹_›⟩

/-- A relation that each step keeps, up to stopping for the same reason, is kept by every run. -/
theorem runSteps_agree {R : State → State → Prop}
    (hstep : ∀ s t, R s t → OutcomesAgree R (step s) (step t)) (k : Nat) :
    ∀ s t, R s t → OutcomesAgree R (runSteps k s) (runSteps k t) := by
  induction k with
  | zero => exact fun _ _ h => h
  | succ k ih =>
    intro s t h
    have hst := hstep s t h
    simp only [runSteps]
    revert hst
    cases step s <;> cases step t <;> intro hst <;> first | exact ih _ _ hst | exact hst | exact False.elim hst

end Sys2Proof.Machine
end

