-- ==== Sys2Proof/Machine/HostProgram.lean ====
section
/-! DEFINITION. Host programs: the pseudo-instructions and their expansions (R107, R108), and what a run lets the host
and the trace consumer observe (R299). The text of the notation, its comments and its number formats, is not modelled. -/

namespace Sys2Proof.Machine

/-- R72, R107: the address of a register's byte, the inverse of `regAt`; none for the reserved addresses. -/
def addressOf : Reg → Option Byte
  | .key i => some (BitVec.ofNat 8 (0x00 + i.val))
  | .din i => some (BitVec.ofNat 8 (0x10 + i.val))
  | .dout i => some (BitVec.ofNat 8 (0x20 + i.val))
  | .stateView i => some (BitVec.ofNat 8 (0x30 + i.val))
  | .rkwin i => some (BitVec.ofNat 8 (0x40 + i.val))
  | .cmd => some 0x50
  | .status => some 0x51
  | .errcode => some 0x52
  | .ctrl => some 0x53
  | .klen => some 0x54
  | .blen => some 0x55
  | .rksel => some 0x56
  | .stage => some 0x57
  | .gfA => some 0x58
  | .gfB => some 0x59
  | .gfP => some 0x5A
  | .sboxIn => some 0x5B
  | .sboxOut => some 0x5C
  | .reserved => none

/-- R107, R108: one line of a host program. `cmd` holds the opcode byte of R108's mnemonic (log entry 20). -/
inductive HostLine where
  | wr (addr data : Byte)
  | rd (addr : Byte)
  | cmd (op : Byte)
  | wrblk (base : Byte) (b : Block)
  | setKey (b : Block)
  | setDin (b : Block)
  | rdblk (base : Byte)
  | clrErr
  | trace (on : Bool)
  | selRk (k : Byte)
  | gfMul (a b : Byte)
  | sbox (x : Byte)
  deriving DecidableEq, Repr

/-- R100: the word of `WR addr, data`. -/
def wrWord (addr data : Byte) : Txn := txnOf true addr data

/-- R100: the word of `RD addr`. -/
def rdWord (addr : Byte) : Txn := txnOf false addr 0

/-- R108: the address `base + i` of a block's byte. DESIGN CHOICE (log entry 21): with a base above 0xF0 the spec says
nothing of the sums past 0xFF, and the model wraps them modulo 256, so they reach KEY. -/
def blockAddress (base : Byte) (i : Fin 16) : Byte := base + BitVec.ofNat 8 i.val

/-- R108: `WRBLK`, sixteen writes in index order; the addresses wrap past 0xFF (log entry 21). -/
def writeBlock (base : Byte) (b : Block) : List Txn :=
  (List.finRange 16).map fun i => wrWord (blockAddress base i) b[i]

/-- R108: `RDBLK`, sixteen reads in index order; the addresses wrap past 0xFF (log entry 21). -/
def readBlock (base : Byte) : List Txn := (List.finRange 16).map fun i => rdWord (blockAddress base i)

/-- R108: the transactions a line stands for. -/
def HostLine.expand : HostLine → List Txn
  | .wr addr data => [wrWord addr data]
  | .rd addr => [rdWord addr]
  | .cmd op => [wrWord cmdAddress op]
  | .wrblk base b => writeBlock base b
  | .setKey b => writeBlock 0x00 b ++ [wrWord 0x54 0x10]
  | .setDin b => writeBlock 0x10 b ++ [wrWord 0x55 0x10]
  | .rdblk base => readBlock base
  | .clrErr => [wrWord 0x51 0x02]
  | .trace on => [wrWord 0x53 (if on then 0x01 else 0x00)]
  | .selRk k => [wrWord 0x56 k]
  | .gfMul a b => [wrWord 0x58 a, wrWord 0x59 b, wrWord cmdAddress 0x20]
  | .sbox x => [wrWord 0x5B x, wrWord cmdAddress 0x21]

/-- R299: the observation of a run: the values its reads returned, the end state, and TRACE. -/
structure Observation where
  reads : List Byte
  final : Arch
  trace : List Event
  deriving DecidableEq, Repr

/-- R299: the observation of a run that ends in `s`, when its start state had `before` read values. -/
def observe (before : Nat) (s : State) : Observation :=
  { reads := s.responses.drop before, final := s.toArch, trace := s.trace }

/-- R356: the minimal sequence for one encryption after reset, steps 1 to 4 and 6 to 8 (step 5, the trace, is
optional). -/
def minimalEncryption (key din : Block) : List HostLine :=
  [.wr 0x54 0x10, .wr 0x55 0x10, .wrblk 0x00 key, .wrblk 0x10 din, .cmd 0x02, .rd 0x52, .rdblk 0x20]

end Sys2Proof.Machine
end

