-- ==== Sys2Proof/Tests/Slice0.lean ====
section
/-! SUPPORT. Small tests of one instruction each, with expected values from spec/95_test_vectors.md, and for every
statement with hypotheses a state or operands that meet them. -/

open Sys2Proof Sys2Proof.Machine

namespace Sys2Proof.Tests

/-- A block from its 32 hex digits, byte 0 first (R77). -/
def block (n : Nat) : Block := Vector.ofFn fun i => BitVec.ofNat 8 (n >>> (8 * (15 - i.val)))

/-- The bytes of a word from its 8 hex digits. -/
def wordBytes (n : Nat) : List Byte := [24, 16, 8, 0].map fun k => BitVec.ofNat 8 (n >>> k)

/-- The next state, if there is one. -/
def nextOf : Host.Outcome State Fault Refusal → Option State
  | .next t => some t
  | .fault _ => none
  | .refused _ => none

/-- Reset with both lengths 16 and a key and a plaintext. -/
def loaded (key din : Nat) : State :=
  { State.reset with key := block key, din := block din, klen := 0x10, blen := 0x10 }

/-- Vector V1 of the spec (source §8). -/
def v1 : State := loaded 0x656C656374726963616C6C79636F6E64 0x74656C65636F6D6D756E69636174696F

/-- A state whose schedule is that of its key. -/
def expanded (s : State) : State := { s with rk := expandKey s.key, kv := true }

/-- Reset with STATE the matrix of `00 01 .. 0F` (section 3.3). -/
def counting : State := { State.reset with state := encodeBlock (block 0x000102030405060708090A0B0C0D0E0F) }

/-! ## WellFormed -/

theorem test_wellFormed_refuses_second_name : Instr.wellFormed (.busWrite 0x50 0x02) = false := by decide

theorem test_wellFormed_accepts_illegal_byte : Instr.wellFormed (.busWrite 0x50 0x03) = true := by decide

theorem test_wellFormed_accepts_other_address : Instr.wellFormed (.busWrite 0x51 0x02) = true := by decide

/-! ## Decode: the words of 30_encoding.md, bit by bit -/

theorem test_decode_nop : decode 0b1_01010000_00000000 = .ok .nop := by rfl
theorem test_decode_expandKey : decode 0b1_01010000_00000001 = .ok .expandKey := by rfl
theorem test_decode_encrypt : decode 0b1_01010000_00000010 = .ok .encrypt := by rfl
theorem test_decode_loadState : decode 0b1_01010000_00010000 = .ok .loadState := by rfl
theorem test_decode_subBytes : decode 0b1_01010000_00010001 = .ok .subBytes := by rfl
theorem test_decode_shiftRows : decode 0b1_01010000_00010010 = .ok .shiftRows := by rfl
theorem test_decode_mixColumns : decode 0b1_01010000_00010011 = .ok .mixColumns := by rfl
theorem test_decode_addRoundKey : decode 0b1_01010000_00010100 = .ok .addRoundKey := by rfl
theorem test_decode_storeState : decode 0b1_01010000_00010101 = .ok .storeState := by rfl
theorem test_decode_nextStage : decode 0b1_01010000_00010110 = .ok .nextStage := by rfl
theorem test_decode_gfMul : decode 0b1_01010000_00100000 = .ok .gfMul := by rfl
theorem test_decode_sboxLookup : decode 0b1_01010000_00100001 = .ok .sboxLookup := by rfl
theorem test_decode_busRead : decode 0b0_00100000_00000000 = .ok (.busRead 0x20) := by rfl
theorem test_decode_busWrite : decode 0b1_00010001_11001100 = .ok (.busWrite 0x11 0xCC) := by rfl
theorem test_decode_refuses_read_with_data : decode 0b0_00100000_00000001 = .error (.nonCanonicalRead 0x02001) := by rfl

/-- The example words of R100. -/
theorem test_encode_examples : encode .encrypt = 0x15002 ∧ encode (.busRead 0x20) = 0x02000 := by decide

/-! ## Tables and functions (sections 3.1 to 3.4) -/

theorem test_gmul_reduces : gmul 0x57 0x83 = 0xC1 ∧ gmul 0xFF 0xFF = 0x13 := by decide

theorem test_shiftRows_left :
    decodeMatrix (shiftRows counting.state) = block 0x00050A0F04090E03080D02070C01060B := by decide +kernel

/-- The four rows of R182's `M`, as the spec lists them. -/
theorem test_mixCoefficient_rows :
    (List.finRange 4).map (mixCoefficient 0) = [2, 3, 1, 1] ∧
    (List.finRange 4).map (mixCoefficient 1) = [1, 2, 3, 1] ∧
    (List.finRange 4).map (mixCoefficient 2) = [1, 1, 2, 3] ∧
    (List.finRange 4).map (mixCoefficient 3) = [3, 1, 1, 2] := by decide

theorem test_mixColumns_column :
    decodeMatrix (mixColumns (encodeBlock (block 0xDB135345F20A225C80000000D4D4D4D5))) =
      block 0x8E4DA1BC9FDC589D1B80809BD5D5D7D6 := by decide +kernel

theorem test_schedule_v1 : decodeMatrix (expandKey v1.key)[10] = block 0x6EA63265F0FA28FC54B108000AB37E58 := by
  decide +kernel

/-! ## Instructions -/

/-- E23: NOP after a failure. -/
theorem test_nop_keeps_err :
    (nextOf (exec .nop { State.reset with errcode := 0x01, err := true })).map (fun t => (t.errcode, t.err)) =
      some (0x00, true) := by decide

theorem test_gfMul_example :
    (nextOf (exec .gfMul { State.reset with gfA := 0x57, gfB := 0x83 })).map (·.gfP) = some 0xC1 := by decide

theorem test_sboxLookup_example :
    (nextOf (exec .sboxLookup { State.reset with sboxIn := 0x53 })).map (·.sboxOut) = some 0xED := by decide

theorem test_loadState_order :
    (nextOf (exec .loadState { v1 with stage := 11 })).map (fun t => (decodeMatrix t.state, t.stage)) =
      some (block 0x74656C65636F6D6D756E69636174696F, 0) := by decide +kernel

/-- BLEN = 32 is refused. -/
theorem test_loadState_length :
    (nextOf (exec .loadState { v1 with blen := 0x20, stage := 11 })).map (fun t => (t.errcode, t.stage)) =
      some (0x01, 11) := by decide

theorem test_storeState_order :
    (nextOf (exec .storeState counting)).map (·.dout) = some (block 0x000102030405060708090A0B0C0D0E0F) := by
  decide +kernel

theorem test_subBytes_counting :
    (nextOf (exec .subBytes counting)).map (fun t => decodeMatrix t.state) =
      some (block 0x637C777BF26B6FC53001672BFED7AB76) := by decide +kernel

/-- Section 3.9: a stepwise SUB_BYTES of the zero state. -/
theorem test_subBytes_event :
    (nextOf (exec .subBytes { State.reset with traceEn := true })).map (·.trace) =
      some [⟨.subBytes, 0xFF, List.replicate 16 0x00, List.replicate 16 0x63⟩] := by decide +kernel

theorem test_shiftRows_runs_without_key :
    (nextOf (exec .shiftRows counting)).map (fun t => (decodeMatrix t.state, t.errcode)) =
      some (block 0x00050A0F04090E03080D02070C01060B, 0x00) := by decide +kernel

theorem test_mixColumns_keeps_stage :
    (nextOf (exec .mixColumns { counting with stage := 11 })).map (fun t => (decodeMatrix t.state, t.stage)) =
      some (block 0x02070005060304010A0F080D0E0B0C09, 11) := by decide +kernel

theorem test_addRoundKey_last :
    (nextOf (exec .addRoundKey (expanded { State.reset with rksel := 0x0A }))).map (fun t => decodeMatrix t.state) =
      some (block 0xB4EF5BCB3E92E21123E951CF6F8F188E) := by decide +kernel

/-- E9: NoSchedule comes before BadRoundIndex. -/
theorem test_addRoundKey_priority :
    (nextOf (exec .addRoundKey { State.reset with rksel := 0x0B })).map (·.errcode) = some 0x05 := by decide

theorem test_expandKey_events :
    (nextOf (exec .expandKey { v1 with traceEn := true })).map (fun t => (t.kv, t.trace.length, t.trace[2]?)) =
      some (true, 40, some ⟨.ksRcon, 0x01, wordBytes 0xA89F43FB, wordBytes 0xA99F43FB⟩) := by decide +kernel

/-- KLEN = 17 with KV = 1: KV stays. -/
theorem test_expandKey_length :
    (nextOf (exec .expandKey { v1 with klen := 0x11, kv := true })).map (fun t => (t.errcode, t.kv)) =
      some (0x02, true) := by decide

theorem test_encrypt_v1 :
    (nextOf (exec .encrypt v1)).map (fun t => (t.dout, t.stage, t.errcode)) =
      some (block 0x2D096DD8C7A46B5614D4F47B7161D648, 11, 0x00) := by decide +kernel

theorem test_encrypt_events :
    (nextOf (exec .encrypt { v1 with traceEn := true })).map (fun t => (t.trace.length, t.trace[79]?)) =
      some (80, some ⟨.addRoundKey, 0x0A, (block 0x43AF5FBD375E43AA4065FC7B7BD2A810).toList,
        (block 0x2D096DD8C7A46B5614D4F47B7161D648).toList⟩) := by decide +kernel

theorem test_nextStage_one :
    (nextOf (exec .nextStage (expanded { v1 with
        stage := 1, state := encodeBlock (block 0x11090906171D040E1402051A021B070B) }))).map
      (fun t => (decodeMatrix t.state, t.stage)) = some (block 0x64B4AB9C70A4E89C76FA9274075839D3, 2) := by
  decide +kernel

/-- E13 and E14: KV is checked before STAGE. -/
theorem test_nextStage_priority :
    (nextOf (exec .nextStage { State.reset with stage := 11, kv := true })).map (·.errcode) = some 0x07 ∧
    (nextOf (exec .nextStage { State.reset with stage := 11 })).map (·.errcode) = some 0x05 := by decide

/-- A STATE byte off the diagonal, and STATUS with both flags. -/
theorem test_busRead_values :
    (nextOf (exec (.busRead 0x36) counting)).map (·.responses) = some [0x06] ∧
    (nextOf (exec (.busRead 0x51) { State.reset with err := true, kv := true })).map (·.responses) = some [0x03] := by
  decide

theorem test_busRead_rkwin :
    (nextOf (exec (.busRead 0x41) (expanded { v1 with rksel := 0x0A }))).map (·.responses) = some [0xA6] := by
  decide +kernel

/-- A KEY write clears KV, whatever it writes; B4 and E26: only bit 1 of a STATUS write clears ERR. -/
theorem test_busWrite_key_and_status :
    (nextOf (exec (.busWrite 0x07 0x00) { State.reset with kv := true })).map (·.kv) = some false ∧
    (nextOf (exec (.busWrite 0x51 0x01) { State.reset with err := true })).map (·.err) = some true ∧
    (nextOf (exec (.busWrite 0x51 0x02) { State.reset with err := true })).map (·.err) = some false := by decide

/-- B13 and E15. -/
theorem test_busWrite_reserved_and_illegal :
    exec (.busWrite 0x5D 0xAA) State.reset = .next State.reset ∧
    (nextOf (exec (.busWrite 0x50 0x03) State.reset)).map (fun t => (t.errcode, t.err)) = some (0x04, true) :=
  ⟨rfl, by decide⟩

/-! ## The step -/

theorem test_step_runs_table_byte :
    (nextOf (step (State.withFetchWord { State.reset with gfA := 0x80, gfB := 0x02 } 8 0x20))).map (·.gfP) =
      some 0x1B := by decide

theorem test_step_runs_table_transaction :
    (nextOf (step (State.reset.withFetchWord 17 0x1002B))).map (·.key[0]) = some 0x2B := by decide

/-! ## Host programs -/

/-- The words of P4's lines 4 to 6 and 10 to 11. -/
theorem test_hostLine_expand :
    HostLine.expand (.gfMul 0x57 0x83) = [0x15857, 0x15983, 0x15020] ∧
    HostLine.expand (.sbox 0x53) = [0x15B53, 0x15021] := by decide

/-- The words of P1: the last byte of SETKEY with KLEN, and the first of RDBLK. -/
theorem test_hostLine_blocks :
    (HostLine.expand (.setKey v1.key)).drop 15 = [0x10F64, 0x15410] ∧
    (HostLine.expand (.rdblk 0x20)).take 2 = [0x02000, 0x02100] := by decide

theorem test_addressOf_regAt : ∀ i : Fin 16, (addressOf (.stateView i)).map regAt = some (.stateView i) := by decide

/-! ## Witnesses: operands or states that meet each statement's hypotheses, clause by clause -/

theorem test_witness_DecodeEncodeRoundTrip :
    Instr.wellFormed .nop = true ∧ Instr.wellFormed (.busRead 0xFF) = true ∧
    Instr.wellFormed (.busWrite 0x50 0xFF) = true := by decide

theorem test_witness_EncodeDecodeRoundTrip : decode 0x1002B = .ok (.busWrite 0x00 0x2B) := by rfl

/-- R105's ranges at both ends, and their neighbours that are commands. -/
theorem test_witness_IllegalCommandRaises :
    (∀ op ∈ ([0x03, 0x0F, 0x17, 0x1F, 0x22, 0xFF] : List Byte),
      (0x03 ≤ op.toNat ∧ op.toNat ≤ 0x0F) ∨ (0x17 ≤ op.toNat ∧ op.toNat ≤ 0x1F) ∨ 0x22 ≤ op.toNat) ∧
    (∀ op ∈ ([0x02, 0x10, 0x16, 0x20, 0x21] : List Byte), op ∈ definedOpcodes) := by decide

theorem test_witness_CmdWriteDispatches : (0x22 : Byte) ∉ definedOpcodes := by decide

theorem test_witness_StepRunsDecodedInstruction :
    (State.withFetchWord State.reset 17 0x15857).pending = .access 0x15857 :: [] ∧
    decode 0x15857 = .ok (.busWrite 0x58 0x57) := ⟨by decide, rfl⟩

theorem test_witness_OtherStepsAreIdleOrStop :
    State.reset.pending = [] ∧
    ({ State.reset with pending := [.access 0x02001] } : State).pending = .access 0x02001 :: [] ∧
    (0x02001 : Txn).getLsbD 16 = false ∧ (0x02001 : Txn).extractLsb' 0 8 ≠ 0 ∧
    ({ State.reset with pending := [.accessInReset 0x02000] } : State).pending = .accessInReset 0x02000 :: [] := by
  decide

theorem test_witness_TableWordRunsNext :
    decodeTableWord 8 0x02 = some .encrypt ∧ decodeTableWord 17 0x02000 = some (.busRead 0x20) ∧
    decodeTableWord 24 0x15857 = some (.busWrite 0x58 0x57) := ⟨rfl, rfl, rfl⟩

theorem test_witness_GmulFieldLaws : (0x53 : Byte) ≠ 0 ∧ gmul 0x53 0xCA = 1 := by decide

theorem test_witness_SboxIsAffineOfInverse :
    (if (0 : Byte) = 0 then (0 : Byte) = 0 else gmul 0 0 = 1) ∧
    (if (0x53 : Byte) = 0 then (0xCA : Byte) = 0 else gmul 0x53 0xCA = 1) := by decide

theorem test_witness_LoadStateLoadsOrFails :
    v1.blen = 16#8 ∧ State.reset.blen ≠ 16#8 ∧ ({ v1 with blen := 0x11 } : State).blen ≠ 16#8 := by decide

/-- RKSEL at 10 and at 11, with KV = 1. -/
theorem test_witness_AddRoundKeyRunsOrFails :
    ((expanded { v1 with rksel := 0x0A }).rksel.toNat < 11 ∧ (expanded { v1 with rksel := 0x0A }).kv = true) ∧
    State.reset.kv = false ∧
    ((expanded { v1 with rksel := 0x0B }).kv = true ∧ 10 < (expanded { v1 with rksel := 0x0B }).rksel.toNat) := by
  decide

theorem test_witness_TransformLaws :
    ∀ r : Fin 4, (encodeBlock (block 0xC6C6C6C6D4D4D4D50000000000000000))[r][0] =
      (encodeBlock (block 0xC6C6C6C6D4D4D4D50000000000000000))[0][0] := by decide +kernel

theorem test_witness_ScheduleRecurrence :
    (4 ≤ 5 ∧ 5 < 44 ∧ 5 % 4 ≠ 0) ∧ (4 ≤ 43 ∧ 43 < 44 ∧ 43 % 4 ≠ 0) := by decide

theorem test_witness_ExpandKeyRunsOrFails :
    v1.klen = 16#8 ∧ ({ v1 with klen := 0x0F } : State).klen ≠ 16#8 ∧ ({ v1 with klen := 0x11 } : State).klen ≠ 16#8 := by
  decide

theorem test_witness_StagesAndTheirEvents :
    (1 ≤ (1 : Fin 11).val ∧ (1 : Fin 11).val ≤ 9) ∧ (1 ≤ (9 : Fin 11).val ∧ (9 : Fin 11).val ≤ 9) := by decide

theorem test_witness_EncryptRunsOrFails :
    (v1.blen = 16#8 ∧ v1.klen = 16#8) ∧ ({ v1 with blen := 0x00 } : State).blen ≠ 16#8 ∧
    (({ v1 with klen := 0x00 } : State).blen = 16#8 ∧ ({ v1 with klen := 0x00 } : State).klen ≠ 16#8) := by decide

theorem test_witness_EncryptEqualsStepwise : v1.blen = 16#8 ∧ v1.klen = 16#8 := by decide

/-- STAGE at 0, 10 and 11, with KV = 1, and KV = 0. -/
theorem test_witness_NextStageRunsOrFails :
    ((expanded v1).kv = true ∧ (expanded v1).stage = (0 : Fin 11).castSucc) ∧
    ((expanded { v1 with stage := 10 }).kv = true ∧
      (expanded { v1 with stage := 10 }).stage = (10 : Fin 11).castSucc) ∧
    v1.kv = false ∧
    ((expanded { v1 with stage := 11 }).kv = true ∧ (expanded { v1 with stage := 11 }).stage = 11) := by decide

theorem test_witness_StepwisePipelineCompletes :
    (expanded v1).kv = true ∧ ScheduleValid (expanded v1) ∧ (expanded v1).blen = 16#8 :=
  ⟨rfl, fun _ => rfl, rfl⟩

/-- RKWIN with RKSEL at 10 and at 11, with KV = 1, and with KV = 0. -/
theorem test_witness_BusReadReturns :
    ((expanded { v1 with rksel := 0x0A }).rksel.toNat < 11 ∧ (expanded { v1 with rksel := 0x0A }).kv = true) ∧
    (v1.kv = false ∨ 10 < v1.rksel.toNat) ∧
    ((expanded { v1 with rksel := 0x0B }).kv = false ∨ 10 < (expanded { v1 with rksel := 0x0B }).rksel.toNat) ∧
    (0x5D ≤ (0x5D : Byte).toNat ∧ 0x5D ≤ (0xFF : Byte).toNat) := by decide

theorem test_witness_BusWriteChanges :
    (0x20 ≤ (0x20 : Byte).toNat ∧ (0x20 : Byte).toNat ≤ 0x4F) ∧ (0x20 ≤ (0x4F : Byte).toNat ∧ (0x4F : Byte).toNat ≤ 0x4F) ∧
    decodeCommand 0x21 = .ok .sboxLookup ∧ decodeCommand 0x22 = .error (.illegalCommand 0x22) ∧
    (0x5D ≤ (0x5D : Byte).toNat ∧ 0x5D ≤ (0xFF : Byte).toNat) := ⟨by decide, by decide, rfl, rfl, by decide⟩

theorem test_witness_AddressMapIsOneToOne : regAt 0x5C ≠ .reserved ∧ regAt 0x5D = .reserved := by decide

theorem test_witness_ErrorPriority : (0x1F : Byte) ∉ definedOpcodes := by decide

theorem test_witness_ErrorsArePrecise : Instr.nop.isCommand = true ∧ Instr.sboxLookup.isCommand = true := by decide

theorem test_witness_FailedCommandRepeats :
    Instr.encrypt.isCommand = true ∧ exec .encrypt State.reset = .next (raiseError .invalidBlockLength State.reset) ∧
    (raiseError .invalidBlockLength State.reset).errcode ≠ 0x00 := ⟨rfl, rfl, by decide⟩

/-- ERR cleared by a STATUS write, and set by a failing command and by an illegal byte. -/
theorem test_witness_ErrIsSticky :
    (nextOf (exec (.busWrite 0x51 0x02) { State.reset with err := true })).map (·.err) = some false ∧
    (nextOf (exec .nextStage State.reset)).map (·.err) = some true ∧
    (nextOf (exec (.busWrite 0x50 0xFF) State.reset)).map (·.err) = some true := by decide

/-- KV cleared by a write of KEY's last byte, and set by EXPAND_KEY. -/
theorem test_witness_KvChangesOnlyAsStated :
    (nextOf (exec (.busWrite 0x0F 0x9C) (expanded v1))).map (·.kv) = some false ∧
    (nextOf (exec .expandKey v1)).map (·.kv) = some true ∧
    (nextOf (exec (.busWrite 0x50 0x02) v1)).map (·.kv) = some true := by decide +kernel

theorem test_witness_StageChangesOnlyAsStated :
    (nextOf (exec .loadState { v1 with stage := 11 })).map (·.stage) = some 0 ∧
    (nextOf (exec .nextStage (expanded { v1 with stage := 10 }))).map (·.stage) = some 11 ∧
    (nextOf (exec .encrypt v1)).map (·.stage) = some 11 := by decide +kernel

theorem test_witness_CommandFrame :
    Instr.gfMul.isCommand = true ∧
    exec .gfMul State.reset = .next (complete { State.reset with gfP := gmul State.reset.gfA State.reset.gfB }) :=
  ⟨rfl, rfl⟩

theorem test_witness_TraceGrowsByStatedCount :
    Instr.nextStage.isCommand = true ∧
    (nextOf (exec .nextStage (expanded { v1 with stage := 10, traceEn := true }))).map (·.trace.length) = some 3 ∧
    (nextOf (exec .nextStage { v1 with traceEn := true })).map (·.trace.length) = some 0 := by decide +kernel

theorem test_witness_TraceNeverAltersRun :
    SameButTrace { v1 with traceEn := true, pending := [.access 0x15002] } { v1 with pending := [.access 0x15002] } :=
  ⟨rfl, rfl, rfl⟩

/-- An event of 4 bytes, at the last index of its kind, and one of 16 bytes at index 0xFF. -/
theorem test_witness_PortPlacesBytes :
    Event.Legal ⟨.ksRotWord, 0x0A, wordBytes 0x5E027658, wordBytes 0x0276585E⟩ ∧
    Event.Legal ⟨.subBytes, 0xFF, List.replicate 16 0x00, List.replicate 16 0x63⟩ :=
  ⟨⟨by simp only [legalIndex]; decide, rfl, rfl⟩, ⟨by simp only [legalIndex]; decide, rfl, rfl⟩⟩

/-- R274: the kinds of the first and the last row of the table, as the port shows them. -/
theorem test_port_kind :
    (portOf ⟨.subBytes, 0xFF, List.replicate 16 0x00, List.replicate 16 0x63⟩).kind = 0x01 ∧
    (portOf ⟨.ksRoundKey, 0x0A, List.replicate 16 0x00, List.replicate 16 0x00⟩).kind = 0x13 := by decide

/-- R301: byte 0 of a 4-byte event is on bits 7..0, and the other bytes are 0. -/
theorem test_port_of_word_event :
    (portOf ⟨.ksRotWord, 0x0A, wordBytes 0x5E027658, wordBytes 0x0276585E⟩).before = 0x5876025E := by decide

theorem test_witness_AccessesAreIdempotent : (0x4F : Byte) ≠ 0x50 ∧ (0x51 : Byte) ≠ 0x50 := by decide

theorem test_witness_StepKeepsInv :
    Invariant (expanded { v1 with pending := [.access 0x1002B] }) ∧
    step (expanded { v1 with pending := [.access 0x1002B] }) =
      .next (writeReg 0x2B (expanded v1) (.key 0)) :=
  ⟨⟨fun _ => rfl, List.mem_cons_self, fun _ h => nomatch h⟩, rfl⟩

/-- A schedule that differs from the reset state's. -/
def ones : Schedule := Vector.replicate 11 (Vector.replicate 4 (Vector.replicate 4 1))

theorem test_stale_rk_is_hidden {s : State} (h : s.kv = false) (rk : Schedule) :
    SameButStaleRk s { s with rk := rk } := by
  simp only [SameButStaleRk, hideStaleRk, h, Bool.false_eq_true, if_false]

theorem test_witness_StaleRkIsUnobservable :
    SameButStaleRk State.reset { State.reset with rk := ones } := test_stale_rk_is_hidden rfl ones

/-- The two states of the witness differ. -/
theorem test_witness_StaleRk_differs : State.reset.rk ≠ ones := by decide

theorem test_witness_ResetEventRestoresResetState :
    ({ v1 with pending := [.reset] } : State).pending = .reset :: [] ∧
    ({ v1 with pending := [.abandoned 0x15002] } : State).pending = .abandoned 0x15002 :: [] := by decide

theorem test_witness_HostProgramRunsToItsEnd :
    ∀ w ∈ ([0x15857, 0x15983, 0x15020, 0x05A00] : List Txn), txnCanonical w = true := by
  intro w hw
  simp only [List.mem_cons, List.not_mem_nil, or_false] at hw
  rcases hw with rfl | rfl | rfl | rfl <;> rfl

theorem test_witness_AllowedHostNeverStopsMachine :
    ∀ e ∈ ({ v1 with pending := [.access 0x15002, .reset, .abandoned 0x15002, .access 0x02000] } : State).pending,
      e.Allowed := by
  intro e he
  simp only [List.mem_cons, List.not_mem_nil, or_false] at he
  rcases he with rfl | rfl | rfl | rfl <;> trivial

theorem test_witness_InstancesAreIndependent :
    platformStep (1 : Fin 2) #v[v1, State.reset.withFetchWord 8 0x00] =
      .next #v[v1, complete State.reset] ∧ (0 : Fin 2) ≠ 1 := ⟨rfl, by decide⟩

end Sys2Proof.Tests
end

section
/-! PROOFS. The statements about the state (10_state.md). First what each operation does to the fields these statements
speak of, then the invariant of R57, the stale RK, and ERR, KV and STAGE, which only named instructions change. -/

namespace Sys2Proof.Machine

/-! ## What one instruction does -/

/-- The name of a command, or the write of its opcode to CMD, in the two forms `exec_cases` gives. -/
theorem command_or_cmdWrite {i c : Instr} {op : Byte} (hop : encodeCommand c = some op)
    (hi : i = c ∨ ∃ d, i = .busWrite 0x50 d ∧ decodeCommand d = .ok c) : i = c ∨ i = .busWrite 0x50 op := by
  refine hi.imp_right ?_
  rintro ⟨d, rfl, hd⟩
  have h := encodeCommand_of_decodeCommand hd
  rw [hop, Option.some.injEq] at h
  rw [h]

/-- An instruction that names a command, or writes its opcode to CMD, runs that command in every state. -/
theorem exec_eq_command {i c : Instr} (hi : i = c ∨ ∃ d, i = .busWrite 0x50 d ∧ decodeCommand d = .ok c) (s : State) :
    exec i s = exec c s := by
  rcases hi with rfl | ⟨d, rfl, hd⟩
  · rfl
  · rw [exec_busWrite_cmd, hd]

/-- R55: what the effect of a command leaves unchanged, `t` being the state after it. ERR is here too: only a failing
command writes it. -/
structure EffectFrame (i : Instr) (s t : State) : Prop where
  key : t.key = s.key
  din : t.din = s.din
  klen : t.klen = s.klen
  blen : t.blen = s.blen
  rksel : t.rksel = s.rksel
  traceEn : t.traceEn = s.traceEn
  gfA : t.gfA = s.gfA
  gfB : t.gfB = s.gfB
  sboxIn : t.sboxIn = s.sboxIn
  err : t.err = s.err
  pending : t.pending = s.pending
  responses : t.responses = s.responses
  resets : t.resets = s.resets
  schedule : i ≠ .expandKey → i ≠ .encrypt → t.rk = s.rk ∧ t.kv = s.kv
  dout : i ≠ .storeState → i ≠ .encrypt → t.dout = s.dout
  gfP : i ≠ .gfMul → t.gfP = s.gfP
  sboxOut : i ≠ .sboxLookup → t.sboxOut = s.sboxOut
  state : i ∈ [Instr.nop, .expandKey, .storeState, .gfMul, .sboxLookup] → t.state = s.state
  stage : i ≠ .loadState → i ≠ .nextStage → i ≠ .encrypt → t.stage = s.stage

theorem EffectFrame.refl (i : Instr) (s : State) : EffectFrame i s s := by
  constructor <;> simp

theorem effectOf_frame (s : State) (i : Instr) : EffectFrame i s (effectOf s i) := by
  cases i with
  | encrypt => constructor <;> simp [effectOf, runPipeline_eq]
  | addRoundKey =>
    simp only [effectOf]
    split
    · constructor <;> simp
    · exact .refl _ s
  | nextStage =>
    simp only [effectOf]
    split
    · constructor <;> simp
    · exact .refl _ s
  | _ => constructor <;> simp [effectOf]

/-- R216, R245: a command that writes RK writes the schedule of KEY. -/
theorem effectOf_rk {i : Instr} (hi : i = .expandKey ∨ i = .encrypt) (s : State) :
    (effectOf s i).rk = expandKey s.key := by
  rcases hi with rfl | rfl <;> simp [effectOf, runPipeline_eq]

/-- R216, R245: and it sets KV. -/
theorem effectOf_kv {i : Instr} (hi : i = .expandKey ∨ i = .encrypt) (s : State) : (effectOf s i).kv = true := by
  rcases hi with rfl | rfl <;> simp [effectOf, runPipeline_eq]

/-- R44: how STAGE moves. -/
theorem effectOf_stage_changed {s : State} {i : Instr} (h : (effectOf s i).stage ≠ s.stage) :
    (i = .loadState ∧ (effectOf s i).stage = 0) ∨
    (i = .nextStage ∧ (effectOf s i).stage.val = s.stage.val + 1) ∨
    (i = .encrypt ∧ (effectOf s i).stage = 11) := by
  cases i with
  | loadState => simp [effectOf]
  | encrypt => simp [effectOf]
  | nextStage =>
    by_cases hs : s.stage.val < 11
    · simp [effectOf, hs]
    · simp [effectOf, hs] at h
  | _ => exact absurd ((effectOf_frame s _).stage (by simp) (by simp) (by simp)) h

/-- R39: only a write to STATUS touches ERR. -/
theorem writeReg_err (d : Byte) (s : State) {r : Reg} (hr : r ≠ .status) : (writeReg d s r).err = s.err := by
  cases r with
  | status => exact absurd rfl hr
  | _ => rfl

theorem regAt_status_iff (a : Byte) : regAt a = .status ↔ a = 0x51 := by
  revert a; decide +kernel

theorem regAt_key_le {a : Byte} {i : Fin 16} (h : regAt a = .key i) : a.toNat ≤ 0x0F := by
  revert a i; decide +kernel

theorem regAt_ofNat_key (i : Fin 16) : regAt (BitVec.ofNat 8 i.val) = .key i := by
  revert i; decide

theorem regAt_ofNat_rkwin (j : Fin 16) : regAt (BitVec.ofNat 8 (0x40 + j.val)) = .rkwin j := by
  revert j; decide

theorem errorByte_ne_zero (e : ErrorCode) : errorByte e ≠ 0x00 := by
  cases e <;> decide

/-- R44: STAGE is at most 11, so its byte has bits 7:4 clear. -/
theorem stageByte_high_zero (n : Fin 12) : (BitVec.ofNat 8 n.val).extractLsb' 4 4 = 0 := by
  revert n; decide

theorem readRegister_stage (s : State) : readRegister s 0x57 = BitVec.ofNat 8 s.stage.val := by
  have hr : regAt 0x57 = .stage := by decide
  rw [readRegister, hr, readReg]

/-! ## The events a command emits -/

/-- The events a command that completes emits when TRACE_EN = 1. -/
def eventsOf (s : State) : Instr → List Event
  | .expandKey => expandEvents s.key
  | .encrypt => expandEvents s.key ++ pipelineEvents (encodeBlock s.din) (expandKey s.key)
  | .subBytes => [matrixEvent .subBytes noIndex s.state (subBytes s.state)]
  | .shiftRows => [matrixEvent .shiftRows noIndex s.state (shiftRows s.state)]
  | .mixColumns => [matrixEvent .mixColumns noIndex s.state (mixColumns s.state)]
  | .addRoundKey =>
    match selectedKey s with
    | some k => [matrixEvent .addRoundKey s.rksel s.state (addRoundKey s.state k)]
    | none => []
  | .nextStage => if h : s.stage.val < 11 then stageEvents ⟨s.stage.val, h⟩ s.state s.rk else []
  | _ => []

/-- R271, R272: the effect of a command appends its events to TRACE. -/
theorem effectOf_trace (s : State) (i : Instr) :
    (effectOf s i).trace = s.trace ++ if s.traceEn then eventsOf s i else [] := by
  cases i with
  | encrypt =>
    cases h : s.traceEn <;> simp [effectOf, eventsOf, runPipeline_eq, h]
  | addRoundKey =>
    cases h : selectedKey s <;> simp [effectOf, eventsOf, h]
  | nextStage =>
    by_cases h : s.stage.val < 11 <;> simp [effectOf, eventsOf, h]
  | _ => simp [effectOf, eventsOf]

theorem matrixEvent_legal {k : EventKind} {i : Byte} (hi : legalIndex k i) (hk : eventLength k = 16) (a b : Matrix) :
    (matrixEvent k i a b).Legal := by
  simp [Event.Legal, matrixEvent, hi, hk]

theorem wordEvent_legal {k : EventKind} {i : Byte} (hi : legalIndex k i) (hk : eventLength k = 4) (a b : Word) :
    (wordEvent k i a b).Legal := by
  simp [Event.Legal, wordEvent, hi, hk]

/-- R274: the events of one key-schedule step. -/
theorem scheduleEvents_legal {p : Matrix} {j : Fin 10} {e : Event} (he : e ∈ scheduleEvents p j) : e.Legal := by
  have hj : 1 ≤ (BitVec.ofNat 8 (j.val + 1)).toNat ∧ (BitVec.ofNat 8 (j.val + 1)).toNat ≤ 10 := by
    simp only [BitVec.toNat_ofNat]; omega
  simp only [scheduleEvents, List.mem_cons, List.not_mem_nil, or_false] at he
  rcases he with rfl | rfl | rfl | rfl
  · exact wordEvent_legal (k := .ksRotWord) hj rfl _ _
  · exact wordEvent_legal (k := .ksSubWord) hj rfl _ _
  · exact wordEvent_legal (k := .ksRcon) hj rfl _ _
  · exact matrixEvent_legal (k := .ksRoundKey) hj rfl _ _

theorem expandEvents_legal {key : Block} {e : Event} (he : e ∈ expandEvents key) : e.Legal := by
  obtain ⟨j, -, hj⟩ := List.mem_flatMap.1 he
  exact scheduleEvents_legal hj

/-- R274: the events of one pipeline stage. MixColumns has none in stage 10, so its index is at most 9. -/
theorem stageEvents_legal {n : Fin 11} {m : Matrix} {rk : Schedule} {e : Event} (he : e ∈ stageEvents n m rk) :
    e.Legal := by
  have hn : (BitVec.ofNat 8 n.val).toNat = n.val := by
    simp only [BitVec.toNat_ofNat]; omega
  have hround : n.val ≠ 0 → 1 ≤ (BitVec.ofNat 8 n.val).toNat ∧ (BitVec.ofNat 8 n.val).toNat ≤ 10 := by omega
  have hkey : legalIndex .addRoundKey (BitVec.ofNat 8 n.val) := by simp only [legalIndex]; omega
  unfold stageEvents at he
  split at he
  next =>
    rw [List.mem_singleton] at he
    exact he ▸ matrixEvent_legal hkey rfl _ _
  next h0 =>
    split at he
    · simp only [List.mem_cons, List.not_mem_nil, or_false] at he
      rcases he with rfl | rfl | rfl
      · exact matrixEvent_legal (k := .subBytes) (.inl (hround h0)) rfl _ _
      · exact matrixEvent_legal (k := .shiftRows) (.inl (hround h0)) rfl _ _
      · exact matrixEvent_legal hkey rfl _ _
    · have hmix : 1 ≤ (BitVec.ofNat 8 n.val).toNat ∧ (BitVec.ofNat 8 n.val).toNat ≤ 9 := by omega
      simp only [List.mem_cons, List.not_mem_nil, or_false] at he
      rcases he with rfl | rfl | rfl | rfl
      · exact matrixEvent_legal (k := .subBytes) (.inl (hround h0)) rfl _ _
      · exact matrixEvent_legal (k := .shiftRows) (.inl (hround h0)) rfl _ _
      · exact matrixEvent_legal (k := .mixColumns) (.inl hmix) rfl _ _
      · exact matrixEvent_legal hkey rfl _ _

theorem pipelineEvents_legal {m : Matrix} {rk : Schedule} {e : Event} (he : e ∈ pipelineEvents m rk) : e.Legal := by
  obtain ⟨n, -, hn⟩ := List.mem_flatMap.1 he
  exact stageEvents_legal hn

/-- R274: every event of a command that no check stops is of the table. The check that matters is ADD_ROUND_KEY's of
RKSEL, which is its event's index. -/
theorem eventsOf_legal {s : State} {i : Instr} (hi : failureOf s i = none) {e : Event} (he : e ∈ eventsOf s i) :
    e.Legal := by
  cases i with
  | expandKey => exact expandEvents_legal he
  | encrypt => exact (List.mem_append.1 he).elim expandEvents_legal pipelineEvents_legal
  | subBytes => exact List.mem_singleton.1 he ▸ matrixEvent_legal (k := .subBytes) (.inr rfl) rfl _ _
  | shiftRows => exact List.mem_singleton.1 he ▸ matrixEvent_legal (k := .shiftRows) (.inr rfl) rfl _ _
  | mixColumns => exact List.mem_singleton.1 he ▸ matrixEvent_legal (k := .mixColumns) (.inr rfl) rfl _ _
  | addRoundKey =>
    obtain ⟨-, hr⟩ := failureOf_addRoundKey hi
    simp only [eventsOf, selectedKey_some hr, List.mem_singleton] at he
    exact he ▸ matrixEvent_legal (k := .addRoundKey) (Nat.le_of_lt_succ hr) rfl _ _
  | nextStage =>
    obtain ⟨-, hs⟩ := failureOf_nextStage hi
    simp only [eventsOf, hs, dif_pos] at he
    exact stageEvents_legal he
  | _ => exact absurd he List.not_mem_nil

/-! ## The invariant of R57 -/

theorem errorByte_mem_legalErrcodes (e : ErrorCode) : errorByte e ∈ legalErrcodes := by
  cases e <;> decide

theorem okByte_mem_legalErrcodes : okByte ∈ legalErrcodes := by decide

/-- Reset clears KV, so whatever RK holds then is no claim about KEY. -/
theorem invariant_resetPin (s : State) : Invariant (resetPin s) :=
  ⟨nofun, okByte_mem_legalErrcodes, nofun⟩

theorem invariant_raiseError {s : State} (hs : Invariant s) (e : ErrorCode) : Invariant (raiseError e s) := by
  obtain ⟨hvalid, -, htrace⟩ := hs
  exact ⟨hvalid, errorByte_mem_legalErrcodes e, htrace⟩

/-- A KEY write clears KV; no other register write touches KEY, KV, RK, ERRCODE or TRACE. -/
theorem invariant_writeReg {s : State} (hs : Invariant s) (d : Byte) (r : Reg) : Invariant (writeReg d s r) := by
  obtain ⟨hvalid, hcode, htrace⟩ := hs
  obtain ⟨-, -, hrk, herrcode, -, -, -, htr, -⟩ := writeReg_frame d s r
  refine ⟨?_, herrcode ▸ hcode, htr ▸ htrace⟩
  rcases writeReg_key d s r with ⟨hkey, hkv⟩ | ⟨i, -, -, hkv⟩
  · rw [ScheduleValid, hrk, hkey, hkv]
    exact hvalid
  · rw [ScheduleValid, hkv]
    exact nofun

/-- A command either writes KV and RK together, from the KEY it leaves in place, or leaves all three. -/
theorem scheduleValid_effectOf {s : State} (hs : ScheduleValid s) (i : Instr) : ScheduleValid (effectOf s i) := by
  have hf := effectOf_frame s i
  intro hkv
  rw [hf.key]
  by_cases hi : i = .expandKey ∨ i = .encrypt
  · exact effectOf_rk hi s
  · obtain ⟨hrk, hkv'⟩ := hf.schedule (fun h => hi (.inl h)) (fun h => hi (.inr h))
    rw [hrk]
    exact hs (hkv' ▸ hkv)

theorem invariant_complete_effectOf {s : State} {i : Instr} (hs : Invariant s) (hi : failureOf s i = none) :
    Invariant (complete (effectOf s i)) := by
  obtain ⟨hvalid, -, htrace⟩ := hs
  refine ⟨scheduleValid_effectOf hvalid i, okByte_mem_legalErrcodes, fun e he => ?_⟩
  rw [complete_trace, effectOf_trace, List.mem_append] at he
  rcases he with he | he
  · exact htrace e he
  · split at he
    · exact eventsOf_legal hi he
    · exact absurd he List.not_mem_nil

theorem exec_keeps_invariant {i : Instr} {s t : State} (hs : Invariant s) (h : exec i s = .next t) : Invariant t := by
  rcases exec_cases i s with ⟨a, -, he⟩ | ⟨a, d, -, -, he⟩ | ⟨d, e, -, -, he⟩ | ⟨c, hc, -, he⟩ <;> rw [he] at h
  · cases h; exact hs
  · cases h; exact invariant_writeReg hs d _
  · cases h; exact invariant_raiseError hs _
  · rcases exec_command_cases hc h with ⟨hf, rfl⟩ | ⟨e, -, rfl⟩
    · exact invariant_complete_effectOf hs hf
    · exact invariant_raiseError hs e

/-- What a step that answers a next state has done: nothing, the instruction of an access, or a reset. -/
theorem step_cases {s t : State} (h : step s = .next t) :
    (s.pending = [] ∧ t = s) ∨
    (∃ w rest i, s.pending = .access w :: rest ∧ decode w = .ok i ∧ exec i { s with pending := rest } = .next t) ∨
    (∃ e rest, s.pending = e :: rest ∧ (e = .reset ∨ ∃ w, e = .abandoned w) ∧
      t = resetPin { s with pending := rest }) := by
  unfold step at h
  split at h
  next hp => cases h; exact .inl ⟨hp, rfl⟩
  next e rest hp =>
    cases e with
    | access w =>
      simp only [deliver] at h
      split at h
      next i hd => exact .inr (.inl ⟨w, rest, i, hp, hd, h⟩)
      next => cases h
    | reset => cases h; exact .inr (.inr ⟨_, rest, hp, .inl rfl, rfl⟩)
    | abandoned w => cases h; exact .inr (.inr ⟨_, rest, hp, .inr ⟨w, rfl⟩, rfl⟩)
    | accessInReset w => cases h

/-- Settles O53: each of the three things a step can do keeps the invariant, which does not speak of the events still to
come. -/
theorem stepKeepsInv : Obligations.StepKeepsInv := by
  unfold Obligations.StepKeepsInv
  intro s t hs h
  rcases step_cases h with ⟨-, rfl⟩ | ⟨w, rest, i, -, -, he⟩ | ⟨e, rest, -, -, rfl⟩
  · exact hs
  · exact exec_keeps_invariant (s := { s with pending := rest }) hs he
  · exact invariant_resetPin _

/-- Settles O52: after reset KV = 0, ERRCODE = 0x00 and TRACE is empty. -/
theorem invHoldsAtReset : Obligations.InvHoldsAtReset := by
  unfold Obligations.InvHoldsAtReset
  exact ⟨nofun, okByte_mem_legalErrcodes, nofun⟩

/-! ## The stale RK (R37, I7) -/

/-- R46: RKWIN reads zero while KV = 0. -/
theorem readReg_rkwin_of_kv {s : State} (hk : s.kv = false) (j : Fin 16) : readReg s (.rkwin j) = 0 := by
  simp [readReg, rkwinByte, hk]

/-- `s` with another key schedule. -/
def withRk (rk : Schedule) (s : State) : State := { s with rk := rk }

theorem hideStaleRk_of_kv {s : State} (hk : s.kv = true) : hideStaleRk s = s := by
  simp [hideStaleRk, hk]

theorem hideStaleRk_of_not_kv {s : State} (hk : s.kv = false) : hideStaleRk s = withRk State.reset.rk s := by
  simp [hideStaleRk, hk, withRk]

theorem hideStaleRk_kv (s : State) : (hideStaleRk s).kv = s.kv := by
  cases hk : s.kv with
  | true => rw [hideStaleRk_of_kv hk, hk]
  | false => rw [hideStaleRk_of_not_kv hk]; exact hk

theorem sameButStaleRk_withRk {s : State} (hk : s.kv = false) (rk : Schedule) : SameButStaleRk s (withRk rk s) := by
  have hk' : (withRk rk s).kv = false := hk
  rw [SameButStaleRk, hideStaleRk_of_not_kv hk, hideStaleRk_of_not_kv hk']
  rfl

/-- Two such states are equal, or KV = 0 and one is the other with another RK. -/
theorem sameButStaleRk_cases {s t : State} (h : SameButStaleRk s t) :
    s = t ∨ (s.kv = false ∧ ∃ rk, t = withRk rk s) := by
  have hkv : s.kv = t.kv := by rw [← hideStaleRk_kv s, ← hideStaleRk_kv t, h]
  unfold SameButStaleRk at h
  cases hk : s.kv with
  | true =>
    rw [hideStaleRk_of_kv hk, hideStaleRk_of_kv (hkv ▸ hk)] at h
    exact .inl h
  | false =>
    rw [hideStaleRk_of_not_kv hk, hideStaleRk_of_not_kv (hkv ▸ hk)] at h
    have h' : withRk t.rk (withRk State.reset.rk t) = withRk t.rk (withRk State.reset.rk s) := congrArg _ h.symm
    exact .inr ⟨rfl, t.rk, h'⟩

theorem outcomesAgree_refl (o : Host.Outcome State Fault Refusal) : OutcomesAgree SameButStaleRk o o := by
  cases o <;> exact rfl

/-- R46: while KV = 0 no register read sees RK. -/
theorem readReg_withRk {s : State} (hk : s.kv = false) (rk : Schedule) (r : Reg) :
    readReg (withRk rk s) r = readReg s r := by
  cases r with
  | rkwin i => rw [readReg_rkwin_of_kv hk, readReg_rkwin_of_kv (s := withRk rk s) hk]
  | _ => rfl

theorem writeReg_withRk (d : Byte) (s : State) (rk : Schedule) (r : Reg) :
    writeReg d (withRk rk s) r = withRk rk (writeReg d s r) := by
  cases r <;> rfl

theorem writeReg_kv_of_kv {s : State} (hk : s.kv = false) (d : Byte) (r : Reg) : (writeReg d s r).kv = false := by
  rcases writeReg_key d s r with ⟨-, hkv⟩ | ⟨-, -, -, hkv⟩
  · rw [hkv, hk]
  · exact hkv

/-- No check reads RK (R318). -/
theorem failureOf_withRk (s : State) (rk : Schedule) (i : Instr) : failureOf (withRk rk s) i = failureOf s i := by
  cases i <;> rfl

/-- R216: the key schedule overwrites RK, whatever it held. -/
theorem runKeySchedule_withRk (s : State) (rk : Schedule) : runKeySchedule (withRk rk s) = runKeySchedule s := rfl

/-- The commands whose effect reads or writes RK. -/
def rkCommands : List Instr := [.expandKey, .encrypt, .addRoundKey, .nextStage]

theorem effectOf_withRk {i : Instr} (hi : i ∉ rkCommands) (s : State) (rk : Schedule) :
    effectOf (withRk rk s) i = withRk rk (effectOf s i) := by
  cases i with
  | expandKey => exact absurd (by decide) hi
  | encrypt => exact absurd (by decide) hi
  | addRoundKey => exact absurd (by decide) hi
  | nextStage => exact absurd (by decide) hi
  | _ => rfl

/-- EXPAND_KEY and ENCRYPT overwrite RK before they read it; while KV = 0 the checks stop the other two commands that
read it; the rest leave it alone. -/
theorem complete_effectOf_withRk {s : State} {i : Instr} (hk : s.kv = false) (hi : failureOf s i = none)
    (rk : Schedule) : SameButStaleRk (complete (effectOf s i)) (complete (effectOf (withRk rk s) i)) := by
  by_cases hm : i ∈ rkCommands
  · simp only [rkCommands, List.mem_cons, List.not_mem_nil, or_false] at hm
    rcases hm with rfl | rfl | rfl | rfl
    · simp only [effectOf, runKeySchedule_withRk, SameButStaleRk]
    · simp only [effectOf, runKeySchedule_withRk, SameButStaleRk]
    · obtain ⟨hkv, -⟩ := failureOf_addRoundKey hi
      exact absurd hkv (by simp [hk])
    · obtain ⟨hkv, -⟩ := failureOf_nextStage hi
      exact absurd hkv (by simp [hk])
  · rw [effectOf_withRk hm]
    have hx : i ≠ .expandKey := fun h => hm (by simp [h, rkCommands])
    have he : i ≠ .encrypt := fun h => hm (by simp [h, rkCommands])
    obtain ⟨-, hkv⟩ := (effectOf_frame s i).schedule hx he
    exact sameButStaleRk_withRk (s := complete (effectOf s i)) (hkv.trans hk) rk

theorem exec_withRk {s : State} (hk : s.kv = false) (rk : Schedule) (i : Instr) :
    OutcomesAgree SameButStaleRk (exec i s) (exec i (withRk rk s)) := by
  rcases exec_cases i s with ⟨a, rfl, -⟩ | ⟨a, d, rfl, ha, -⟩ | ⟨d, e, rfl, hd, -⟩ | ⟨c, hc, hi, -⟩
  · simp only [exec, execBusRead, readRegister, readReg_withRk hk]
    exact sameButStaleRk_withRk (s := respond _ s) hk rk
  · rw [exec_busWrite_reg ha, exec_busWrite_reg ha, writeReg_withRk]
    exact sameButStaleRk_withRk (writeReg_kv_of_kv hk d _) rk
  · rw [exec_busWrite_illegal hd, exec_busWrite_illegal hd]
    exact sameButStaleRk_withRk (s := raiseError _ s) hk rk
  · rw [exec_eq_command hi, exec_eq_command hi]
    have hf' := failureOf_withRk s rk c
    cases hf : failureOf s c with
    | none =>
      rw [exec_success hc hf, exec_success hc (hf'.trans hf)]
      exact complete_effectOf_withRk hk hf rk
    | some e =>
      rw [exec_failure hc hf, exec_failure hc (hf'.trans hf)]
      exact sameButStaleRk_withRk (s := raiseError e s) hk rk

theorem deliver_withRk {s : State} (hk : s.kv = false) (rk : Schedule) (e : HostEvent) :
    OutcomesAgree SameButStaleRk (deliver e s) (deliver e (withRk rk s)) := by
  cases e with
  | access w =>
    simp only [deliver]
    split
    · exact exec_withRk hk rk _
    · exact outcomesAgree_refl _
  | reset => exact outcomesAgree_refl (.next (resetPin s))
  | abandoned w => exact outcomesAgree_refl (.next (resetPin s))
  | accessInReset w => exact outcomesAgree_refl (.fault .accessDuringReset)

theorem step_withRk {s : State} (hk : s.kv = false) (rk : Schedule) :
    OutcomesAgree SameButStaleRk (step s) (step (withRk rk s)) := by
  have hp' : (withRk rk s).pending = s.pending := rfl
  unfold step
  rw [hp']
  split
  next => exact sameButStaleRk_withRk hk rk
  next e rest _ => exact deliver_withRk (s := { s with pending := rest }) hk rk e

/-- Settles O54, by induction on the number of steps: a step of two such states either stops both for one reason or
gives two such states. -/
theorem staleRkIsUnobservable : Obligations.StaleRkIsUnobservable := by
  unfold Obligations.StaleRkIsUnobservable
  refine runSteps_agree fun s t h => ?_
  rcases sameButStaleRk_cases h with rfl | ⟨hk, rk, rfl⟩
  · exact outcomesAgree_refl _
  · exact step_withRk hk rk

/-! ## What a KEY write blocks (R363) -/

theorem failureOf_nextStage_of_kv {s : State} (hk : s.kv = false) : failureOf s .nextStage = some .noSchedule := by
  simp [failureOf, hk]

theorem failureOf_addRoundKey_of_kv {s : State} (hk : s.kv = false) : failureOf s .addRoundKey = some .noSchedule := by
  simp [failureOf, hk]

theorem exec_busWrite_keyByte (s : State) (i : Fin 16) (d : Byte) :
    exec (.busWrite (BitVec.ofNat 8 i.val) d) s = .next (writeReg d s (.key i)) := by
  have ha : BitVec.ofNat 8 i.val ≠ 0x50 := by
    rw [Ne, ← regAt_cmd_iff, regAt_ofNat_key]
    exact nofun
  rw [exec_busWrite_reg ha, regAt_ofNat_key]

/-- Settles O40: the state after the write has KV = 0, which is all that the three instructions look at. -/
theorem keyWriteBlocksSchedule : Obligations.KeyWriteBlocksSchedule := by
  unfold Obligations.KeyWriteBlocksSchedule
  intro s i j d
  have hk : (writeReg d s (.key i)).kv = false := rfl
  refine ⟨_, exec_busWrite_keyByte s i d, ?_, ?_, ?_⟩
  · exact exec_failure rfl (failureOf_nextStage_of_kv hk)
  · exact exec_failure rfl (failureOf_addRoundKey_of_kv hk)
  · simp only [exec, execBusRead, readRegister, regAt_ofNat_rkwin, readReg_rkwin_of_kv hk]
    rfl

/-! ## ERR, KV, STAGE, the frame of a command, and the reset values -/

/-- Nothing is to show of a flag that keeps its value. -/
theorem flag_unchanged {before after : Bool} (h : after = before) {cleared raised : Prop} :
    (before = true → after = false → cleared) ∧ (before = false → after = true → raised) := by
  subst h
  cases after <;> exact ⟨nofun, nofun⟩

theorem isCommand_or_cmdWrite {i c : Instr} (hc : c.isCommand = true)
    (hi : i = c ∨ ∃ d, i = .busWrite 0x50 d ∧ decodeCommand d = .ok c) :
    i.isCommand = true ∨ ∃ d, i = .busWrite 0x50 d := by
  rcases hi with rfl | ⟨d, hd, -⟩
  · exact .inl hc
  · exact .inr ⟨d, hd⟩

/-- R39: the only register write that clears ERR is one to STATUS with data bit 1 set, and none sets it. -/
theorem writeReg_err_cases (a d : Byte) (s : State) :
    (writeReg d s (regAt a)).err = s.err ∨
    (a = 0x51 ∧ d.getLsbD 1 = true ∧ (writeReg d s (regAt a)).err = false) := by
  by_cases ha : a = 0x51
  · have hr : regAt a = .status := (regAt_status_iff a).2 ha
    rw [hr]
    cases hd : d.getLsbD 1 with
    | true => exact .inr ⟨ha, rfl, by simp only [writeReg, errAfterStatusWrite, hd, if_true]⟩
    | false => exact .inl (by simp only [writeReg, errAfterStatusWrite, hd, Bool.false_eq_true, if_false])
  · exact .inl (writeReg_err d s fun hr => ha ((regAt_status_iff a).1 hr))

/-- Settles O44: the one register write that touches ERR is STATUS's, and the one operation that sets it is
`raiseError`, which writes an error's code with it. -/
theorem errIsSticky : Obligations.ErrIsSticky := by
  unfold Obligations.ErrIsSticky
  intro i s t h
  rcases exec_cases i s with ⟨a, -, he⟩ | ⟨a, d, hi, -, he⟩ | ⟨d, e, hi, -, he⟩ | ⟨c, hc, hi, he⟩ <;> rw [he] at h
  · cases h
    exact flag_unchanged rfl
  · cases h
    rcases writeReg_err_cases a d s with herr | ⟨rfl, hd, herr⟩
    · exact flag_unchanged herr
    · exact ⟨fun _ _ => ⟨d, hi, hd⟩, fun _ h1 => absurd (herr.symm.trans h1) (by decide)⟩
  · cases h
    exact ⟨fun _ h0 => absurd h0 (by simp), fun _ _ => ⟨.inr ⟨d, hi⟩, errorByte_ne_zero .illegalCommand⟩⟩
  · rcases exec_command_cases hc h with ⟨-, rfl⟩ | ⟨e, -, rfl⟩
    · exact flag_unchanged (effectOf_frame s c).err
    · exact ⟨fun _ h0 => absurd h0 (by simp), fun _ _ => ⟨isCommand_or_cmdWrite hc hi, errorByte_ne_zero e⟩⟩

/-- Settles O45: KEY writes clear KV, and the two commands that expand the key are the only ones that write it. -/
theorem kvChangesOnlyAsStated : Obligations.KvChangesOnlyAsStated := by
  unfold Obligations.KvChangesOnlyAsStated
  intro i s t h
  rcases exec_cases i s with ⟨a, -, he⟩ | ⟨a, d, hi, -, he⟩ | ⟨d, e, -, -, he⟩ | ⟨c, hc, hi, he⟩ <;> rw [he] at h
  · cases h
    exact flag_unchanged rfl
  · cases h
    rcases writeReg_key d s (regAt a) with ⟨-, hkv⟩ | ⟨j, hj, -, hkv⟩
    · exact flag_unchanged hkv
    · exact ⟨fun _ _ => ⟨a, d, hi, regAt_key_le hj⟩, fun _ h1 => absurd h1 (by simp [hkv])⟩
  · cases h
    exact flag_unchanged rfl
  · rcases exec_command_cases hc h with ⟨-, rfl⟩ | ⟨e, -, rfl⟩
    · by_cases hx : c = .expandKey ∨ c = .encrypt
      · have hnames : i = .expandKey ∨ i = .encrypt ∨ i = .busWrite 0x50 0x01 ∨ i = .busWrite 0x50 0x02 := by
          rcases hx with rfl | rfl
          · rcases command_or_cmdWrite rfl hi with rfl | rfl <;> simp
          · rcases command_or_cmdWrite rfl hi with rfl | rfl <;> simp
        refine ⟨fun _ h0 => absurd h0 ?_, fun _ _ => ⟨hnames, rfl⟩⟩
        simp [effectOf_kv hx]
      · obtain ⟨-, hkv⟩ := (effectOf_frame s c).schedule (fun h => hx (.inl h)) (fun h => hx (.inr h))
        exact flag_unchanged hkv
    · exact flag_unchanged rfl

/-- Settles O46: no access to a register writes STAGE and no failing command does; the three commands that write it are
those of `effectOf_stage_changed`. -/
theorem stageChangesOnlyAsStated : Obligations.StageChangesOnlyAsStated := by
  unfold Obligations.StageChangesOnlyAsStated
  refine ⟨fun i s t h hne => ?_, fun s => by rw [readRegister_stage, stageByte_high_zero]⟩
  rcases exec_cases i s with ⟨a, -, he⟩ | ⟨a, d, -, -, he⟩ | ⟨d, e, -, -, he⟩ | ⟨c, hc, hi, he⟩ <;> rw [he] at h
  · cases h
    exact absurd rfl hne
  · cases h
    obtain ⟨-, -, -, -, hstage, -⟩ := writeReg_frame d s (regAt a)
    exact absurd hstage hne
  · cases h
    exact absurd rfl hne
  · rcases exec_command_cases hc h with ⟨-, rfl⟩ | ⟨e, -, rfl⟩
    · rw [complete_stage] at hne ⊢
      rcases effectOf_stage_changed hne with ⟨rfl, hs⟩ | ⟨rfl, hs⟩ | ⟨rfl, hs⟩
      · exact .inl ⟨command_or_cmdWrite rfl hi, hs⟩
      · exact .inr (.inl ⟨command_or_cmdWrite rfl hi, hs⟩)
      · exact .inr (.inr ⟨command_or_cmdWrite rfl hi, hs⟩)
    · exact absurd rfl hne

/-- Settles O47: a failing command writes ERRCODE and ERR only, and one that completes ERRCODE and what
`effectOf_frame` leaves open. -/
theorem commandFrame : Obligations.CommandFrame := by
  unfold Obligations.CommandFrame
  intro i s t hi h
  rcases exec_command_cases hi h with ⟨-, rfl⟩ | ⟨e, -, rfl⟩
  · have f := effectOf_frame s i
    exact ⟨f.key, f.din, f.klen, f.blen, f.rksel, f.traceEn, f.gfA, f.gfB, f.sboxIn, f.pending, f.responses, f.resets,
      f.schedule, f.dout, f.gfP, f.sboxOut, f.state, f.stage⟩
  · simp

/-- Settles O55: the fields of `State.reset`, one by one. -/
theorem resetValues : Obligations.ResetValues := by
  unfold Obligations.ResetValues
  refine ⟨fun i => ?_, fun r c => ?_, ?_⟩
  · simp [State.reset]
  · simp [State.reset]
  · simp [State.reset]

end Sys2Proof.Machine
end

section
/-! PROOFS. The statements about the register map (20_memory.md): each byte has one address, what an access leaves as it
was, and the base address. -/

namespace Sys2Proof.Machine

/-! ## The address map (R72, R73) -/

/-- R73: the reserved addresses, over the whole map. -/
theorem regAt_reserved_iff (a : Byte) : regAt a = .reserved ↔ 0x5D ≤ a.toNat := by
  revert a; decide +kernel

/-- `addressOf` undoes the address decode, so that two addresses never share a register byte. -/
theorem addressOf_regAt {a : Byte} (ha : regAt a ≠ .reserved) : addressOf (regAt a) = some a := by
  revert a; decide +kernel

/-- Every register byte is where `addressOf` puts it: a window's bytes one by one, a single register at its address. -/
theorem regAt_of_addressOf {r : Reg} {a : Byte} (h : addressOf r = some a) : regAt a = r := by
  cases r with
  | reserved => cases h
  | key i | din i | dout i | stateView i | rkwin i => cases h; revert i; decide
  | _ => cases h; rfl

theorem exists_addressOf {r : Reg} (hr : r ≠ .reserved) : ∃ a, addressOf r = some a := by
  cases r with
  | reserved => exact absurd rfl hr
  | _ => exact ⟨_, rfl⟩

/-- Settles O39: off the reserved range the address decode and `addressOf` are inverse to each other. -/
theorem addressMapIsOneToOne : Obligations.AddressMapIsOneToOne := by
  unfold Obligations.AddressMapIsOneToOne
  refine ⟨fun a b ha hab => ?_, fun r => ?_, regAt_reserved_iff⟩
  · have hb : addressOf (regAt a) = some b := hab ▸ addressOf_regAt (hab ▸ ha)
    exact Option.some.inj ((addressOf_regAt ha).symm.trans hb)
  · by_cases hr : r = .reserved
    · exact ⟨0x5D, by rw [hr, regAt_reserved_iff]; decide⟩
    · obtain ⟨a, ha⟩ := exists_addressOf hr
      exact ⟨a, regAt_of_addressOf ha⟩

/-! ## Repeated accesses (R80, R81) -/

theorem exec_busRead (a : Byte) (s : State) : exec (.busRead a) s = .next (respond (readRegister s a) s) := rfl

/-- R292: the byte a read returns goes to the host's side. -/
theorem respond_toArch (b : Byte) (s : State) : (respond b s).toArch = s.toArch := rfl

/-- R39: a STATUS write clears ERR or leaves it, and so does the same write again. -/
theorem errAfterStatusWrite_idem (err : Bool) (d : Byte) :
    errAfterStatusWrite (errAfterStatusWrite err d) d = errAfterStatusWrite err d := by
  unfold errAfterStatusWrite
  split <;> rfl

/-- R81: what a register write stores depends on the byte alone, but for ERR, which a STATUS write only clears. -/
theorem writeReg_idem (d : Byte) (s : State) (r : Reg) : writeReg d (writeReg d s r) r = writeReg d s r := by
  cases r with
  | key i | din i => simp only [writeReg, Vector.set_set]
  | status => simp only [writeReg, errAfterStatusWrite_idem]
  | _ => rfl

/-- Settles O38: a read only answers the host, and a write off CMD is one register write. -/
theorem accessesAreIdempotent : Obligations.AccessesAreIdempotent := by
  unfold Obligations.AccessesAreIdempotent
  refine fun s a d => ⟨⟨_, exec_busRead a s, respond_toArch _ s⟩, fun ha => ⟨_, exec_busWrite_reg ha d s, ?_⟩⟩
  rw [exec_busWrite_reg ha, writeReg_idem]

/-! ## The base address (R74) -/

/-- R74: the 256 system addresses from AES_BASE on reach the block, each at its own register address. -/
theorem registerAddress_systemAddress (a : Byte) : registerAddress (systemAddress a) = some a := by
  have ha : a.toNat < 256 := a.isLt
  have hin : Config.aesBase ≤ systemAddress a ∧ systemAddress a < Config.aesBase + 256 := by
    unfold systemAddress; omega
  rw [registerAddress, if_pos hin, systemAddress, Nat.add_sub_cancel_left, BitVec.ofNat_toNat, BitVec.setWidth_eq]

/-- Log entry 12: a system address that reaches the block is one of those. -/
theorem eq_systemAddress_of_registerAddress {sys : Nat} {a : Byte} (h : registerAddress sys = some a) :
    sys = systemAddress a := by
  unfold registerAddress at h
  split at h
  next hin =>
    cases h
    rw [systemAddress, BitVec.toNat_ofNat]
    omega
  next => cases h

/-- Settles O60: one direction is R74's, the other the model's choice (log entry 12). -/
theorem baseAddressReachesRegister : Obligations.BaseAddressReachesRegister := by
  unfold Obligations.BaseAddressReachesRegister
  exact fun sys a => ⟨eq_systemAddress_of_registerAddress, fun h => h ▸ registerAddress_systemAddress a⟩

end Sys2Proof.Machine
end

section
/-! PROOFS. The statements about the encoding (30_encoding.md): what the encoders and decoders give, form by form; from
that the two round trips, the refused words, and the words of the opcode table. -/

namespace Sys2Proof

/-! ## Command bytes (R102, R104) -/

theorem decodeCommand_of_encodeCommand {i : Instr} {op : Byte} (h : encodeCommand i = some op) :
    decodeCommand op = .ok i := by
  cases i <;> cases h <;> rfl

/-- R104: the opcodes of the table are the bytes the decoder reads as commands. -/
theorem mem_definedOpcodes_iff (op : Byte) : op ∈ definedOpcodes ↔ ∃ i, decodeCommand op = .ok i := by
  constructor
  · intro h
    unfold definedOpcodes at h
    fin_cases h <;> exact ⟨_, rfl⟩
  · rintro ⟨i, h⟩
    have hop := encodeCommand_of_decodeCommand h
    cases i <;> cases hop <;> decide

/-- R105: every other byte is illegal. -/
theorem not_mem_definedOpcodes_iff (op : Byte) : op ∉ definedOpcodes ↔ ∃ e, decodeCommand op = .error e := by
  rw [mem_definedOpcodes_iff]
  cases decodeCommand op <;> simp

theorem wellFormed_of_isCommand {i : Instr} (h : i.isCommand = true) : i.wellFormed = true := by
  cases i with
  | busWrite _ _ => cases h
  | _ => rfl

/-- Log entry 8: a bus write is read as such when it is no write to CMD, or one of an illegal byte. -/
theorem wellFormed_busWrite_iff (a d : Byte) :
    (Instr.busWrite a d).wellFormed = true ↔ (a = cmdAddress → ∃ e, decodeCommand d = .error e) := by
  simp [Instr.wellFormed, ← not_mem_definedOpcodes_iff, imp_iff_not_or]

/-! ## Transaction words (R100) -/

/-- R108: the word of a command writes its opcode to CMD. -/
theorem encode_command {i : Instr} {op : Byte} (h : encodeCommand i = some op) :
    encode i = txnOf true cmdAddress op := by
  simp only [encode, h]

theorem encode_busRead (a : Byte) : encode (.busRead a) = txnOf false a 0 := rfl

theorem encode_busWrite (a d : Byte) : encode (.busWrite a d) = txnOf true a d := rfl

theorem decode_read (a : Byte) : decode (txnOf false a 0) = .ok (.busRead a) := by
  simp [decode]

theorem decode_cmdWrite {op : Byte} {i : Instr} (h : decodeCommand op = .ok i) :
    decode (txnOf true cmdAddress op) = .ok i := by
  simp [decode, h]

theorem decode_busWrite {a d : Byte} (h : (Instr.busWrite a d).wellFormed = true) :
    decode (txnOf true a d) = .ok (.busWrite a d) := by
  by_cases ha : a = cmdAddress
  · obtain ⟨e, he⟩ := (wellFormed_busWrite_iff a d).1 h ha
    simp [decode, ha, he]
  · simp [decode, ha]

/-- The three readings of a word: a read, a command, or a write that is no command's. -/
theorem decode_ok_cases {w : Txn} {i : Instr} (h : decode w = .ok i) :
    (∃ a, w = txnOf false a 0 ∧ i = .busRead a) ∨
    (∃ op, w = txnOf true cmdAddress op ∧ decodeCommand op = .ok i) ∨
    (∃ a d, w = txnOf true a d ∧ i = .busWrite a d ∧ i.wellFormed = true) := by
  obtain ⟨wr, a, d, rfl⟩ : ∃ wr a d, w = txnOf wr a d := ⟨_, _, _, (txnOf_eta w).symm⟩
  simp only [decode, txnWrite_txnOf, txnAddr_txnOf, txnData_txnOf] at h
  split at h
  next hw =>
    subst hw
    split at h
    next ha =>
      subst ha
      split at h
      next c hd => cases h; exact .inr (.inl ⟨d, rfl, hd⟩)
      next e hd => cases h; exact .inr (.inr ⟨_, d, rfl, rfl, (wellFormed_busWrite_iff _ d).2 fun _ => ⟨e, hd⟩⟩)
    next ha => cases h; exact .inr (.inr ⟨a, d, rfl, rfl, (wellFormed_busWrite_iff a d).2 fun hc => absurd hc ha⟩)
  next hw =>
    split at h
    next hd => cases h; exact .inl ⟨a, by rw [Bool.eq_false_of_not_eq_true hw, hd], rfl⟩
    next => cases h

/-! ## The round trips -/

/-- Settles O1: each form of instruction is read back from its word; `wellFormed` is used for bus writes alone. -/
theorem decodeEncodeRoundTrip : Obligations.DecodeEncodeRoundTrip := by
  unfold Obligations.DecodeEncodeRoundTrip
  intro i hi
  cases hop : encodeCommand i with
  | some op => rw [encode_command hop, decode_cmdWrite (decodeCommand_of_encodeCommand hop)]
  | none =>
    cases i with
    | busRead a => rw [encode_busRead, decode_read]
    | busWrite a d => rw [encode_busWrite, decode_busWrite hi]
    | _ => cases hop

/-- Settles O2: each of the three readings of a word encodes to that word. -/
theorem encodeDecodeRoundTrip : Obligations.EncodeDecodeRoundTrip := by
  unfold Obligations.EncodeDecodeRoundTrip
  intro w i h
  rcases decode_ok_cases h with ⟨a, rfl, rfl⟩ | ⟨op, rfl, hop⟩ | ⟨a, d, rfl, rfl, hwf⟩
  · exact ⟨encode_busRead a, rfl⟩
  · exact ⟨encode_command (encodeCommand_of_decodeCommand hop),
      wellFormed_of_isCommand (Machine.decodeCommand_isCommand hop)⟩
  · exact ⟨encode_busWrite a d, hwf⟩

/-! ## Refused words (R100, I22) -/

theorem txnCanonical_iff (w : Txn) : txnCanonical w = true ↔ w.getLsbD 16 = true ∨ w.extractLsb' 0 8 = 0 := by
  simp [txnCanonical, txnWrite, txnData]

theorem decode_nonCanonical {w : Txn} (h : ¬txnCanonical w = true) : decode w = .error (.nonCanonicalRead w) := by
  obtain ⟨hw, hd⟩ : txnWrite w = false ∧ ¬txnData w = 0#8 := by simpa [txnCanonical] using h
  simp [decode, hw, hd]

theorem decode_ok_iff (w : Txn) : (∃ i, decode w = .ok i) ↔ txnCanonical w = true := by
  refine ⟨fun ⟨i, h⟩ => ?_, decode_canonical⟩
  by_contra hc
  cases (decode_nonCanonical hc).symm.trans h

theorem decode_refused_iff (w : Txn) : decode w = .error (.nonCanonicalRead w) ↔ ¬txnCanonical w = true := by
  refine ⟨fun h hc => ?_, decode_nonCanonical⟩
  obtain ⟨i, hi⟩ := decode_canonical hc
  cases h.symm.trans hi

/-- Settles O3: canonical words decode and the others are refused. -/
theorem decodeRefusesOnlyNonCanonicalReads : Obligations.DecodeRefusesOnlyNonCanonicalReads := by
  unfold Obligations.DecodeRefusesOnlyNonCanonicalReads
  intro w
  rw [decode_refused_iff, decode_ok_iff, txnCanonical_iff]
  simp

/-- Settles O4: the decoder, run on each of the ten words. -/
theorem sampleWordsDecode : Obligations.SampleWordsDecode := by
  unfold Obligations.SampleWordsDecode
  exact ⟨rfl, rfl, rfl, rfl, rfl, rfl, rfl, rfl, rfl, rfl⟩

end Sys2Proof

namespace Sys2Proof.Machine

/-! ## The words of the opcode table (log entry 9) -/

theorem eq_ok_of_toOption {ε α : Type} {x : Except ε α} {a : α} (h : x.toOption = some a) : x = .ok a := by
  cases x <;> cases h
  rfl

/-- The transaction that presents a table row is read as the instruction the row's bits name. -/
theorem decode_tableTxn {nbits w : Nat} {i : Instr} (h : decodeTableWord nbits w = some i) :
    decode (tableTxn nbits w) = .ok i := by
  unfold decodeTableWord at h
  unfold tableTxn
  split at h
  next hn =>
    split at h
    next hw =>
      rw [if_pos hn]
      exact decode_cmdWrite (eq_ok_of_toOption h)
    next => cases h
  next hn =>
    split at h
    next hw =>
      rw [if_neg hn]
      exact eq_ok_of_toOption h
    next => cases h

/-- R292: an access runs the instruction its word stands for. -/
theorem deliver_access {w : Txn} {i : Instr} (h : decode w = .ok i) (s : State) :
    deliver (.access w) s = exec i s := by
  simp only [deliver, h]

/-- The word placed first is the next event, and taking it off gives the state back. -/
theorem step_withFetchWord (s : State) (nbits w : Nat) :
    step (s.withFetchWord nbits w) = deliver (.access (tableTxn nbits w)) s := rfl

/-- Settles O9: the placed word is the next event, and it decodes to the row's instruction. -/
theorem tableWordRunsNext : Obligations.TableWordRunsNext := by
  unfold Obligations.TableWordRunsNext
  intro s nbits w i h
  rw [step_withFetchWord, deliver_access (decode_tableTxn h)]

end Sys2Proof.Machine
end

section
/-! PROOFS. The statements about GF(2^8), the S-box and the round constants (40_galois_and_tables.md). A byte names an
element of the quotient of GF(2)[x] by the reduction polynomial, no two bytes the same one, and `gmul` is the product
there: the laws of `gmul` are the laws of that ring. -/

namespace Sys2Proof.Machine

open Polynomial

/-! ## Bytes as polynomials over GF(2) -/

theorem coeff_bytePoly (a : Byte) (n : ℕ) : (bytePoly a).coeff n = if a.getLsbD n then 1 else 0 := by
  have hterm (i : ℕ) : (if a.getLsbD i then (X ^ i : (ZMod 2)[X]) else 0).coeff n
      = if n = i then (if a.getLsbD n then 1 else 0) else 0 := by
    by_cases hi : n = i
    · subst hi; split <;> simp
    · split <;> simp [coeff_X_pow, hi]
  rw [bytePoly, finsetSum_coeff, Finset.sum_congr rfl fun i _ => hterm i, Finset.sum_ite_eq]
  by_cases hn : n < 8
  · rw [if_pos (Finset.mem_range.mpr hn)]
  · rw [if_neg (by simpa using hn), BitVec.getLsbD_of_ge a n (by omega)]
    rfl

/-- XOR is the sum of polynomials. -/
theorem bytePoly_xor (a b : Byte) : bytePoly (a ^^^ b) = bytePoly a + bytePoly b := by
  have hbit : ∀ p q : Bool, (if (p ^^ q) then (1 : ZMod 2) else 0) = (if p then 1 else 0) + if q then 1 else 0 := by
    decide
  ext n : 1
  rw [coeff_add, coeff_bytePoly, coeff_bytePoly, coeff_bytePoly, BitVec.getLsbD_xor, hbit]

theorem bytePoly_injective : Function.Injective bytePoly := by
  intro a b h
  apply BitVec.eq_of_getLsbD_eq
  intro i _
  have hi := congrArg (coeff · i) h
  simp only [coeff_bytePoly] at hi
  revert hi
  cases a.getLsbD i <;> cases b.getLsbD i <;> simp

theorem bytePoly_zero : bytePoly 0#8 = 0 := by
  ext n : 1
  simp [coeff_bytePoly]

theorem bytePoly_one : bytePoly 1#8 = 1 := by
  simp [bytePoly]

theorem bytePoly_two : bytePoly 2#8 = X := by
  simp [bytePoly, Finset.sum_range_succ]

theorem degree_bytePoly_lt (a : Byte) : (bytePoly a).degree < 8 := by
  refine (degree_lt_iff_coeff_zero _ 8).mpr fun n hn => ?_
  rw [coeff_bytePoly, BitVec.getLsbD_of_ge a n (by exact_mod_cast hn)]
  rfl

/-- The low bit, and the rest shifted down. -/
theorem bytePoly_low_add_shift (b : Byte) :
    bytePoly b = (if b.getLsbD 0 then (1 : (ZMod 2)[X]) else 0) + X * bytePoly (b >>> 1) := by
  have hbit (i : ℕ) : (if b.getLsbD (i + 1) then (X ^ (i + 1) : (ZMod 2)[X]) else 0)
      = X * if (b >>> 1).getLsbD i then X ^ i else 0 := by
    rw [BitVec.getLsbD_ushiftRight, Nat.add_comm 1 i, mul_ite, mul_zero, pow_succ']
  have htop : (b >>> 1).getLsbD 7 = false := by
    rw [BitVec.getLsbD_ushiftRight, BitVec.getLsbD_of_ge b (1 + 7) (by omega)]
  rw [bytePoly, bytePoly, Finset.sum_range_succ', Finset.sum_range_succ _ 7, htop,
    Finset.sum_congr rfl fun i _ => hbit i, ← Finset.mul_sum, add_comm]
  simp [-BitVec.getLsbD_ushiftRight]

/-- The bits shifted up, and the bit that goes out at the top. -/
theorem bytePoly_shiftLeft_add_top (a : Byte) :
    bytePoly (a <<< 1) + (if a.getLsbD 7 then X ^ 8 else 0) = X * bytePoly a := by
  have hbit (i : ℕ) (hi : i ∈ Finset.range 7) :
      (if (a <<< 1).getLsbD (i + 1) then (X ^ (i + 1) : (ZMod 2)[X]) else 0)
        = X * if a.getLsbD i then X ^ i else 0 := by
    have hi' : i + 1 < 8 := Nat.succ_lt_succ (Finset.mem_range.mp hi)
    rw [BitVec.getLsbD_shiftLeft, mul_ite, mul_zero, pow_succ']
    simp [hi', -BitVec.getLsbD_eq_getElem]
  rw [bytePoly, bytePoly, Finset.sum_range_succ', Finset.sum_range_succ _ 7, Finset.sum_congr rfl hbit,
    ← Finset.mul_sum, mul_add, mul_ite, mul_zero, ← pow_succ']
  simp

/-- R130: one round of the loop doubles `a`, and adds 0x1B when a bit went out at the top. -/
theorem shiftReduce_eq (a : Byte) : shiftReduce a = (a <<< 1) ^^^ (if a.getLsbD 7 then 0x1B else 0x00) := by
  revert a; decide +kernel

theorem bytePoly_reduced : bytePoly 0x1B = reductionPoly - X ^ 8 := by
  have hsum : bytePoly 0x1B = 1 + X + X ^ 3 + X ^ 4 := by
    simp [bytePoly, Finset.sum_range_succ]
  rw [hsum, reductionPoly]
  ring

/-- One round multiplies by `x`, less the reduction polynomial when a bit goes out at the top. -/
theorem bytePoly_shiftReduce (a : Byte) :
    bytePoly (shiftReduce a) = X * bytePoly a + if a.getLsbD 7 then reductionPoly else 0 := by
  rw [shiftReduce_eq, bytePoly_xor, ← bytePoly_shiftLeft_add_top, add_assoc]
  refine congrArg _ ?_
  split
  · rw [bytePoly_reduced, CharTwo.sub_eq_add, add_comm]
  · simpa using bytePoly_zero

theorem degree_reductionPoly : reductionPoly.degree = 8 := by
  unfold reductionPoly
  compute_degree!

/-! ## Bytes as elements of GF(2)[x] modulo the reduction polynomial -/

/-- The element that a byte names. -/
noncomputable def byteElem (a : Byte) : AdjoinRoot reductionPoly := AdjoinRoot.mk reductionPoly (bytePoly a)

@[simp] theorem byteElem_zero : byteElem 0#8 = 0 := by
  rw [byteElem, bytePoly_zero, map_zero]

@[simp] theorem byteElem_one : byteElem 1#8 = 1 := by
  rw [byteElem, bytePoly_one, map_one]

@[simp] theorem byteElem_two : byteElem 2#8 = AdjoinRoot.root reductionPoly := by
  rw [byteElem, bytePoly_two, AdjoinRoot.mk_X]

@[simp] theorem byteElem_xor (a b : Byte) : byteElem (a ^^^ b) = byteElem a + byteElem b := by
  rw [byteElem, bytePoly_xor, map_add, byteElem, byteElem]

/-- Two bytes that name the same element differ by a multiple of the reduction polynomial of smaller degree. -/
theorem byteElem_injective : Function.Injective byteElem := by
  intro a b h
  have hdvd : reductionPoly ∣ bytePoly a - bytePoly b := AdjoinRoot.mk_eq_mk.mp h
  have hlt : (bytePoly a - bytePoly b).degree < reductionPoly.degree := by
    rw [CharTwo.sub_eq_add, ← bytePoly_xor, degree_reductionPoly]
    exact degree_bytePoly_lt _
  exact bytePoly_injective (sub_eq_zero.mp (eq_zero_of_dvd_of_degree_lt hdvd hlt))

@[simp] theorem byteElem_shiftReduce (a : Byte) :
    byteElem (shiftReduce a) = AdjoinRoot.root reductionPoly * byteElem a := by
  rw [byteElem, bytePoly_shiftReduce, map_add, map_mul, AdjoinRoot.mk_X, ← byteElem]
  split <;> simp

theorem byteElem_low_add_shift (b : Byte) :
    byteElem b = (if b.getLsbD 0 then (1 : AdjoinRoot reductionPoly) else 0)
      + AdjoinRoot.root reductionPoly * byteElem (b >>> 1) := by
  rw [byteElem, bytePoly_low_add_shift, map_add, map_mul, AdjoinRoot.mk_X, ← byteElem]
  split <;> simp

/-- The loop adds `a * b` to the accumulator, when it has a round for each bit of `b`. -/
theorem byteElem_gmulLoop (k : ℕ) (a b p : Byte) (hb : b.toNat < 2 ^ k) :
    byteElem (gmulLoop k a b p) = byteElem p + byteElem a * byteElem b := by
  induction k generalizing a b p with
  | zero =>
    have hzero : b = 0 := BitVec.eq_of_toNat_eq (by simpa using hb)
    simp [gmulLoop, hzero]
  | succ k ih =>
    have hshift : (b >>> 1).toNat < 2 ^ k := by
      rw [BitVec.toNat_ushiftRight, Nat.shiftRight_eq_div_pow]
      omega
    rw [gmulLoop, ih _ _ _ hshift, byteElem_shiftReduce, byteElem_low_add_shift b]
    split
    · rw [byteElem_xor]; ring
    · ring

@[simp] theorem byteElem_gmul (a b : Byte) : byteElem (gmul a b) = byteElem a * byteElem b :=
  (byteElem_gmulLoop 8 a b 0 b.isLt).trans (by simp)

/-- Settles O11: the byte `gmul a b` and the product of the polynomials name the same element. -/
theorem gmulIsPolynomialProduct : Obligations.GmulIsPolynomialProduct := by
  unfold Obligations.GmulIsPolynomialProduct
  intro a b
  rw [← AdjoinRoot.mk_eq_mk, map_mul]
  exact (byteElem_gmul a b).symm

/-! ## The laws of `gmul` (R131, R132) -/

theorem gmul_zero (a : Byte) : gmul a 0 = 0 := byteElem_injective (by simp)

theorem gmul_one (a : Byte) : gmul a 1 = a := byteElem_injective (by simp)

theorem gmul_comm (a b : Byte) : gmul a b = gmul b a := byteElem_injective (by simp [mul_comm])

theorem gmul_assoc (a b c : Byte) : gmul (gmul a b) c = gmul a (gmul b c) := byteElem_injective (by simp [mul_assoc])

theorem gmul_xor (a b c : Byte) : gmul a (b ^^^ c) = gmul a b ^^^ gmul a c := byteElem_injective (by simp [mul_add])

theorem gmul_two (a : Byte) : gmul a 2 = shiftReduce a := byteElem_injective (by simp [mul_comm])

theorem gmul_three (a : Byte) : gmul a 3 = gmul a 2 ^^^ a := by
  have h := gmul_xor a 2 1
  rwa [gmul_one] at h

/-- An element has at most one inverse, as in every commutative monoid. -/
theorem gmul_inverse_unique {a b c : Byte} (hb : gmul a b = 1) (hc : gmul a c = 1) : b = c :=
  calc
    b = gmul (gmul a c) b := by rw [hc, gmul_comm, gmul_one]
    _ = gmul (gmul a b) c := by rw [gmul_assoc, gmul_comm c b, gmul_assoc]
    _ = c := by rw [hb, gmul_comm, gmul_one]

/-! ## The inverse that the S-box holds (R134) -/

/-- R134's affine map undone: bit `i` is `z[i+2] ^ z[i+5] ^ z[i+7] ^ 0x05[i]`, indices mod 8. -/
def unaffine (z : Byte) : Byte := z.rotateLeft 6 ^^^ z.rotateLeft 3 ^^^ z.rotateLeft 1 ^^^ 0x05

/-- The affine map of R134 leads from `unaffine z` back to `z`. -/
theorem getLsbD_affine_unaffine (z : Byte) (i : Fin 8) :
    z.getLsbD i =
      ((unaffine z).getLsbD i ^^ (unaffine z).getLsbD ((i + 4) % 8) ^^ (unaffine z).getLsbD ((i + 5) % 8)
        ^^ (unaffine z).getLsbD ((i + 6) % 8) ^^ (unaffine z).getLsbD ((i + 7) % 8) ^^ (0x63 : Byte).getLsbD i) := by
  revert z i; decide +kernel

/-- R134's `inv(x)`, read off the table; `gmul_fieldInverse` ties it to `gmul`. -/
def fieldInverse (x : Byte) : Byte := unaffine (sbox x)

theorem fieldInverse_zero : fieldInverse 0 = 0 := by decide +kernel

/-- R131, R134: the product is 1, entry by entry of the table. -/
theorem gmul_fieldInverse {x : Byte} (hx : x ≠ 0) : gmul x (fieldInverse x) = 1 := by
  revert x; decide +kernel

/-- An element is the inverse of its inverse. -/
theorem fieldInverse_involutive : Function.Involutive fieldInverse := by
  intro x
  by_cases hx : x = 0
  · rw [hx, fieldInverse_zero, fieldInverse_zero]
  · have hinv := gmul_fieldInverse hx
    have hne : fieldInverse x ≠ 0 := by
      intro hzero
      rw [hzero, gmul_zero] at hinv
      exact absurd hinv (by decide)
    exact gmul_inverse_unique (gmul_fieldInverse hne) (by rw [gmul_comm, hinv])

/-- Settles O12: the laws of the quotient ring, and the inverses of the S-box. -/
theorem gmulFieldLaws : Obligations.GmulFieldLaws := by
  unfold Obligations.GmulFieldLaws
  refine ⟨gmul_zero, gmul_one, gmul_comm, gmul_assoc, gmul_xor, fun a ha => ?_, fun a => ?_, gmul_three⟩
  · exact ⟨fieldInverse a, gmul_fieldInverse ha, fun b hb => gmul_inverse_unique hb (gmul_fieldInverse ha)⟩
  · rw [gmul_two, shiftReduce_eq]

/-! ## The tables (R134 to R136) -/

/-- The inverse that R134 speaks of is the one the table holds. -/
theorem eq_fieldInverse {x y : Byte} (h : if x = 0 then y = 0 else gmul x y = 1) : y = fieldInverse x := by
  split at h
  next hx => rw [h, hx, fieldInverse_zero]
  next hx => exact gmul_inverse_unique h (gmul_fieldInverse hx)

/-- Settles O14: the inverse is unique, and the affine map leads from it to the entry. -/
theorem sboxIsAffineOfInverse : Obligations.SboxIsAffineOfInverse := by
  unfold Obligations.SboxIsAffineOfInverse
  intro x y h i
  rw [eq_fieldInverse h]
  exact getLsbD_affine_unaffine (sbox x) i

theorem sbox_injective : Function.Injective sbox :=
  fun _ _ h => fieldInverse_involutive.injective (congrArg unaffine h)

theorem sbox_ne_self (x : Byte) : sbox x ≠ x := by
  revert x; decide +kernel

/-- Settles O15: equal entries hold equal inverses, and an injective map of a finite set is a bijection. -/
theorem sboxIsPermutation : Obligations.SboxIsPermutation := by
  unfold Obligations.SboxIsPermutation
  exact ⟨Finite.injective_iff_bijective.mp sbox_injective, sbox_ne_self⟩

/-- Settles O16: the ten constants are fixed values, compared one by one. -/
theorem roundConstantsDouble : Obligations.RoundConstantsDouble := by
  unfold Obligations.RoundConstantsDouble
  decide

/-! ## The commands GF_MUL and SBOX_LOOKUP (R140, R141) -/

/-- Settles O10: the command completes with the product in GF_P. -/
theorem gfMulWritesProduct : Obligations.GfMulWritesProduct := by
  unfold Obligations.GfMulWritesProduct
  exact ⟨rfl, fun _ => rfl⟩

/-- Settles O13: the command completes with the entry in SBOX_OUT. -/
theorem sboxLookupWritesEntry : Obligations.SboxLookupWritesEntry := by
  unfold Obligations.SboxLookupWritesEntry
  exact ⟨rfl, fun _ => rfl⟩

end Sys2Proof.Machine
end

section
/-! PROOFS. The statements about the codec and its two commands (41_codec.md). -/

namespace Sys2Proof.Machine

/-! ## The round trips (R162) -/

/-- Byte `i` goes to row `i mod 4` of column `i div 4`, and that place is read back as byte `i`. -/
theorem decodeMatrix_encodeBlock (b : Block) : decodeMatrix (encodeBlock b) = b := by
  apply Vector.ext
  intro i hi
  simp only [decodeMatrix_get, encodeBlock_get, Nat.mod_add_div]

/-- Row `r` of column `c` is byte `r + 4c`, whose row and column are `r` and `c` again. -/
theorem encodeBlock_decodeMatrix (m : Matrix) : encodeBlock (decodeMatrix m) = m := by
  apply matrix_ext
  intro r c hr hc
  have hrow : (r + 4 * c) % 4 = r := by omega
  have hcol : (r + 4 * c) / 4 = c := by omega
  simp only [encodeBlock_get, decodeMatrix_get, hrow, hcol]

theorem encodeBlock_bijective : Function.Bijective encodeBlock :=
  Function.bijective_iff_has_inverse.mpr ⟨decodeMatrix, decodeMatrix_encodeBlock, encodeBlock_decodeMatrix⟩

theorem decodeMatrix_bijective : Function.Bijective decodeMatrix :=
  Function.bijective_iff_has_inverse.mpr ⟨encodeBlock, encodeBlock_decodeMatrix, decodeMatrix_encodeBlock⟩

/-- Settles O17: the byte places give both round trips, and each function is the other's inverse. -/
theorem codecRoundTrips : Obligations.CodecRoundTrips := by
  unfold Obligations.CodecRoundTrips
  exact ⟨fun b r c => encodeBlock_get b r c r.isLt c.isLt, fun m i => decodeMatrix_get m i i.isLt,
    decodeMatrix_encodeBlock, encodeBlock_decodeMatrix, encodeBlock_bijective, decodeMatrix_bijective⟩

/-! ## The commands LOAD_STATE and STORE_STATE (R165, R166) -/

/-- Settles O18: the one check is of BLEN, and it decides between the load and InvalidBlockLength. -/
theorem loadStateLoadsOrFails : Obligations.LoadStateLoadsOrFails := by
  unfold Obligations.LoadStateLoadsOrFails
  refine ⟨rfl, fun s => ⟨fun hb => ?_, fun hb => ?_⟩⟩
  · have hf : failureOf s .loadState = none := if_pos hb
    exact exec_success rfl hf
  · have hf : failureOf s .loadState = some .invalidBlockLength := if_neg hb
    exact exec_failure rfl hf

/-- Settles O19: the command has no check, and its effect is the store. -/
theorem storeStateStores : Obligations.StoreStateStores := by
  unfold Obligations.StoreStateStores
  refine ⟨rfl, fun s => ?_⟩
  have hf : failureOf s .storeState = none := rfl
  rw [exec_success rfl hf, effectOf, complete, storeBlock, okByte]

end Sys2Proof.Machine
end

section
/-! PROOFS. The statements about the four round transformations and the commands that apply one of them to STATE
(42_round_transforms.md). MixColumns is read in the quotient ring where bytes name elements (`byteElem`): it is linear
there, its square has two terms left in each row, and its fourth power is the identity. -/

namespace Sys2Proof.Machine

open AdjoinRoot (root)

/-! ## Entries of the transformed matrix (R180 to R184) -/

/-- Settles O20: the entry of each transformation, at an index that carries its bound. -/
theorem transformEntries : Obligations.TransformEntries := by
  unfold Obligations.TransformEntries
  intro s k r c
  exact ⟨subBytes_get s r c r.isLt c.isLt, shiftRows_get s r c r.isLt c.isLt, addRoundKey_get s k r c r.isLt c.isLt⟩

theorem gmul_one_left (a : Byte) : gmul 1#8 a = a :=
  (gmul_comm 1 a).trans (gmul_one a)

/-- R182: each row of the matrix is the row above moved one place to the right, so one expression serves all four; row
indices wrap modulo 4. -/
theorem mixColumns_get (s : Matrix) (r c : Fin 4) :
    (mixColumns s)[r][c] = gmul 2 s[r][c] ^^^ gmul 3 s[r + 1][c] ^^^ s[r + 2][c] ^^^ s[r + 3][c] := by
  have hentry : (mixColumns s)[r][c] = gmul (mixCoefficient r 0) s[0][c] ^^^ gmul (mixCoefficient r 1) s[1][c]
      ^^^ gmul (mixCoefficient r 2) s[2][c] ^^^ gmul (mixCoefficient r 3) s[3][c] :=
    matrixOf_get _ r c r.isLt c.isLt
  rw [hentry]
  match r with
  | 0 | 1 | 2 | 3 =>
    simp only [mixCoefficient, Fin.isValue, Fin.reduceEq, Fin.reduceAdd, reduceIte, BitVec.ofNat_eq_ofNat,
      gmul_one_left]
    ac_rfl

/-- Settles O21: the expression of each row, its terms put in R183's order. -/
theorem mixColumnsWrittenOut : Obligations.MixColumnsWrittenOut := by
  unfold Obligations.MixColumnsWrittenOut
  intro s c
  have hrow (r : Fin 4) := mixColumns_get s r c
  refine ⟨hrow 0, (hrow 1).trans ?_, (hrow 2).trans ?_, (hrow 3).trans ?_⟩ <;>
    simp only [Fin.isValue, Fin.reduceAdd] <;> ac_rfl

/-! ## MixColumns in the quotient ring -/

/-- A byte XORed with itself is zero: the ring has characteristic 2. -/
theorem two_eq_zero_in_quotient : (2 : AdjoinRoot reductionPoly) = 0 := by
  have h := byteElem_xor 1#8 1#8
  rw [BitVec.xor_self, byteElem_zero, byteElem_one, one_add_one_eq_two] at h
  exact h.symm

theorem byteElem_three : byteElem 3#8 = root reductionPoly + 1 := by
  have h := byteElem_xor 2#8 1#8
  rwa [byteElem_two, byteElem_one] at h

theorem byteElem_mixColumns (s : Matrix) (r c : Fin 4) :
    byteElem (mixColumns s)[r][c] = root reductionPoly * byteElem s[r][c]
      + (root reductionPoly + 1) * byteElem s[r + 1][c] + byteElem s[r + 2][c] + byteElem s[r + 3][c] := by
  rw [mixColumns_get, byteElem_xor, byteElem_xor, byteElem_xor, byteElem_gmul, byteElem_gmul]
  exact congrArg₂ (fun x y => x * _ + y * _ + _ + _) byteElem_two byteElem_three

/-- The square of R182's matrix: `1 + x^2` on the diagonal, `x^2` two columns on, and the other two entries cancel. -/
theorem byteElem_mixColumns_twice (s : Matrix) (r c : Fin 4) :
    byteElem (mixColumns (mixColumns s))[r][c] =
      (1 + root reductionPoly ^ 2) * byteElem s[r][c] + root reductionPoly ^ 2 * byteElem s[r + 2][c] := by
  simp only [byteElem_mixColumns, add_assoc r, Fin.isValue, Fin.reduceAdd, add_zero]
  linear_combination ((root reductionPoly + 1) * byteElem s[r][c]
    + (root reductionPoly ^ 2 + root reductionPoly + 1) * byteElem s[r + 1][c]
    + (2 * root reductionPoly + 1) * (byteElem s[r + 2][c] + byteElem s[r + 3][c])) * two_eq_zero_in_quotient

/-- The square of that square: `(1 + x^2)^2 + x^4 = 1` on the diagonal, and the rest cancels. -/
theorem mixColumns_four_times (s : Matrix) : mixColumns (mixColumns (mixColumns (mixColumns s))) = s := by
  have hentry (r c : Fin 4) : (mixColumns (mixColumns (mixColumns (mixColumns s))))[r][c] = s[r][c] := by
    apply byteElem_injective
    simp only [byteElem_mixColumns_twice, add_assoc r, Fin.isValue, Fin.reduceAdd, add_zero]
    linear_combination (root reductionPoly ^ 2 + root reductionPoly ^ 4) * (byteElem s[r][c] + byteElem s[r + 2][c])
      * two_eq_zero_in_quotient
  exact matrix_ext fun r c hr hc => hentry ⟨r, hr⟩ ⟨c, hc⟩

/-- Settles O23: three applications undo one, from either side. -/
theorem mixColumnsInvertible : Obligations.MixColumnsInvertible := by
  unfold Obligations.MixColumnsInvertible
  exact Function.bijective_iff_has_inverse.mpr
    ⟨mixColumns ∘ mixColumns ∘ mixColumns, mixColumns_four_times, mixColumns_four_times⟩

/-- Equal bytes are multiplied by the sum of a row, which is 1. -/
theorem mixColumns_get_of_equal_column {s : Matrix} {c : Fin 4} (h : ∀ r : Fin 4, s[r][c] = s[0][c]) (r : Fin 4) :
    (mixColumns s)[r][c] = s[r][c] := by
  apply byteElem_injective
  rw [byteElem_mixColumns, h r, h (r + 1), h (r + 2), h (r + 3)]
  linear_combination (root reductionPoly + 1) * byteElem s[0][c] * two_eq_zero_in_quotient

/-! ## The laws of the other three (R186) -/

theorem addRoundKey_addRoundKey (s k : Matrix) : addRoundKey (addRoundKey s k) k = s := by
  apply matrix_ext
  intro r c hr hc
  rw [addRoundKey_get, addRoundKey_get, BitVec.xor_assoc, BitVec.xor_self, BitVec.xor_zero]

theorem addRoundKey_self_get (s : Matrix) (r c : Fin 4) : (addRoundKey s s)[r][c] = 0 :=
  (addRoundKey_get s s r c r.isLt c.isLt).trans BitVec.xor_self

theorem shiftRows_get_row_zero (s : Matrix) (c : Fin 4) : (shiftRows s)[0][c] = s[0][c] := by
  have hcol : (c.val + 0) % 4 = c.val := by omega
  refine (shiftRows_get s 0 c (by decide) c.isLt).trans ?_
  simp only [hcol, Fin.getElem_fin]

/-- Row `r` is rotated by `4 * r` places in all. -/
theorem shiftRows_four_times (s : Matrix) : shiftRows (shiftRows (shiftRows (shiftRows s))) = s := by
  apply matrix_ext
  intro r c hr hc
  have hcol : ((((c + r) % 4 + r) % 4 + r) % 4 + r) % 4 = c := by omega
  simp only [shiftRows_get, hcol]

/-- The entries are permuted independently, as the S-box permutes bytes. -/
theorem subBytes_bijective : Function.Bijective subBytes := by
  obtain ⟨inv, hleft, hright⟩ := Function.bijective_iff_has_inverse.mp sboxIsPermutation.1
  refine Function.bijective_iff_has_inverse.mpr ⟨fun s => matrixOf fun r c => inv s[r][c], fun s => ?_, fun s => ?_⟩
  · exact matrix_ext fun r c hr hc => by simp [hleft s[r][c]]
  · exact matrix_ext fun r c hr hc => by simp [hright s[r][c]]

/-- Settles O22: the six laws, one by one. -/
theorem transformLaws : Obligations.TransformLaws := by
  unfold Obligations.TransformLaws
  exact ⟨addRoundKey_addRoundKey, shiftRows_four_times, shiftRows_get_row_zero, subBytes_bijective,
    addRoundKey_self_get, fun _ _ => mixColumns_get_of_equal_column⟩

/-! ## The commands (R188 to R191) -/

/-- The next state of the four commands, field by field. -/
theorem complete_transformState (kind : EventKind) (index : Byte) (after : Matrix) (s : State) :
    complete (transformState kind index after s) = { s with
      state := after
      trace := s.trace ++ (if s.traceEn then
        [⟨kind, index, (decodeMatrix s.state).toList, (decodeMatrix after).toList⟩] else [])
      errcode := 0x00 } := rfl

/-- Settles O24: none of the three has a check, and the effect of each is a transformation of STATE. -/
theorem keylessTransformsRun : Obligations.KeylessTransformsRun := by
  unfold Obligations.KeylessTransformsRun
  refine ⟨rfl, rfl, rfl, fun s => ⟨?_, ?_, ?_⟩⟩
  · have hf : failureOf s .subBytes = none := rfl
    rw [exec_success rfl hf, effectOf, complete_transformState, noIndex]
  · have hf : failureOf s .shiftRows = none := rfl
    rw [exec_success rfl hf, effectOf, complete_transformState, noIndex]
  · have hf : failureOf s .mixColumns = none := rfl
    rw [exec_success rfl hf, effectOf, complete_transformState, noIndex]

/-- Settles O25: KV is checked first, then RKSEL; with both in order the effect is a transformation of STATE. -/
theorem addRoundKeyRunsOrFails : Obligations.AddRoundKeyRunsOrFails := by
  unfold Obligations.AddRoundKeyRunsOrFails
  refine ⟨rfl, fun s => ⟨fun hr hk => ?_, fun hk => ?_, fun hk hr => ?_⟩⟩
  · have hf : failureOf s .addRoundKey = none := by simp [failureOf, hk, hr]
    rw [exec_success rfl hf, effectOf, selectedKey_some hr, complete_transformState]
  · exact exec_failure rfl (failureOf_addRoundKey_of_kv hk)
  · have hf : failureOf s .addRoundKey = some .badRoundIndex := by simp [failureOf, hk, Nat.not_lt.mpr hr]
    exact exec_failure rfl hf

end Sys2Proof.Machine
end

section
/-! PROOFS. The statements about the key schedule and EXPAND_KEY (43_key_schedule.md). The entries of one step are said
once (`scheduleWord_get`, `scheduleStep_get_zero`, `scheduleStep_get_succ`); the flat sequence of words and the events of
an expansion are read off them. -/

namespace Sys2Proof.Machine

/-! ## The words and matrices of one step (R212, R213) -/

theorem toList_column (m : Matrix) (c : Fin 4) : (column m c).toList = [m[0][c], m[1][c], m[2][c], m[3][c]] := by
  simp [column, Vector.toList_ofFn, List.ofFn_succ]

theorem rotWord_get (w : Word) (r : Fin 4) : (rotWord w)[r] = w[(r.val + 1) % 4] := by
  fin_cases r <;> rfl

theorem subWord_get (w : Word) (r : Fin 4) : (subWord w)[r] = sbox w[r] := by
  fin_cases r <;> rfl

theorem addRcon_get (w : Word) (j : Fin 10) (r : Fin 4) :
    (addRcon w j)[r] = w[r] ^^^ if r = 0 then rcon[j] else 0 := by
  fin_cases r <;> simp [addRcon]

/-- R212: the word that enters column 0 of the next round key. -/
theorem scheduleWord_get (p : Matrix) (j : Fin 10) (r : Fin 4) :
    (scheduleWord p j)[r] = sbox p[(r.val + 1) % 4][3] ^^^ if r = 0 then rcon[j] else 0 := by
  have hrow : (r.val + 1) % 4 < 4 := Nat.mod_lt _ (by decide)
  rw [scheduleWord, addRcon_get, subWord_get, rotWord_get, column_get p 3 _ hrow]
  rfl

@[simp] theorem xorWord_get (a b : Word) (r : Nat) (hr : r < 4) : (xorWord a b)[r] = a[r] ^^^ b[r] := by simp [xorWord]

@[simp] theorem fromColumns_get (n0 n1 n2 n3 : Word) (r c : Nat) (hr : r < 4) (hc : c < 4) :
    (fromColumns n0 n1 n2 n3)[r][c] = #v[n0, n1, n2, n3][c][r] := by simp [fromColumns]

/-- R212: column 0 of the next round key. -/
theorem scheduleStep_get_zero (p : Matrix) (j : Fin 10) (r : Fin 4) :
    (scheduleStep p j)[r][0] = p[r][0] ^^^ (scheduleWord p j)[r] := by
  simp [scheduleStep]

/-- R212: each later column is the column of `p` at its place XORed with the new column before it. -/
theorem scheduleStep_get_succ (p : Matrix) (j : Fin 10) (r : Fin 4) {c : Nat} (hc : c + 1 < 4) :
    (scheduleStep p j)[r][c + 1] = p[r][c + 1] ^^^ (scheduleStep p j)[r][c] := by
  obtain rfl | rfl | rfl : c = 0 ∨ c = 1 ∨ c = 2 := by omega
  all_goals simp [scheduleStep]

/-! ## The round keys (R211) -/

theorem expandKey_get (key : Block) (i : Nat) (hi : i < 11) : (expandKey key)[i] = roundKey key i hi := by
  simp [expandKey]

theorem expandKey_zero (key : Block) : (expandKey key)[0] = encodeBlock key :=
  expandKey_get key 0 (by decide)

theorem expandKey_succ (key : Block) (j : Fin 10) :
    (expandKey key)[j.val + 1] = scheduleStep (expandKey key)[j.val] j := by
  rw [expandKey_get, expandKey_get, roundKey]

/-! ## The flat sequence of words (R214) -/

/-- Word `4 * i + c` is column `c` of `schedule[i]`. -/
theorem scheduleByte_eq (key : Block) (r : Fin 4) {k i c : Nat} (hi : i < 11) (hc : c < 4) (hk : k = 4 * i + c) :
    scheduleByte key ⟨k, by omega⟩ r = (expandKey key)[i][r][c] := by
  have hrow : k / 4 = i := by omega
  have hcol : k % 4 = c := by omega
  simp only [scheduleByte, hrow, hcol]

/-- Settles O26: words 0 to 3 are the key's columns; each later word is a column of one step. -/
theorem scheduleRecurrence : Obligations.ScheduleRecurrence := by
  unfold Obligations.ScheduleRecurrence
  refine fun key r => ⟨fun k => ?_, fun i => ?_, fun k hk hmod => ?_⟩
  · rw [scheduleByte_eq key r (i := 0) (by decide) k.isLt (by omega), expandKey_zero]
    rfl
  · rw [scheduleByte_eq key r (i := i + 1) (c := 0) (by omega) (by decide) (by omega),
      scheduleByte_eq key r (i := i) (c := 0) (by omega) (by decide) (by omega),
      scheduleByte_eq key _ (i := i) (c := 3) (by omega) (by decide) (by omega),
      expandKey_succ, scheduleStep_get_zero, scheduleWord_get, BitVec.xor_assoc]
    rfl
  · obtain ⟨j, c, hc, rfl⟩ : ∃ (j : Fin 10) (c : Nat), c + 1 < 4 ∧ k = 4 * (j.val + 1) + (c + 1) :=
      ⟨⟨k / 4 - 1, by omega⟩, k % 4 - 1, by omega, by dsimp only; omega⟩
    rw [scheduleByte_eq key r (i := j + 1) (c := c + 1) (by omega) hc (by omega),
      scheduleByte_eq key r (i := j) (c := c + 1) (by omega) hc (by omega),
      scheduleByte_eq key r (i := j + 1) (c := c) (by omega) (by omega) (by omega),
      expandKey_succ, scheduleStep_get_succ _ _ _ hc]

/-! ## The events of an expansion (R216, R275) -/

theorem length_scheduleEvents (p : Matrix) (j : Fin 10) : (scheduleEvents p j).length = 4 := rfl

/-- In a concatenation of lists of one length `m`, the entry `k` of list `i` stands at place `m * i + k`. -/
theorem getElem?_flatMap_of_length {α β : Type} {f : α → List β} {m : Nat} (hf : ∀ a, (f a).length = m)
    {l : List α} {i k : Nat} {a : α} (ha : l[i]? = some a) (hk : k < m) : (l.flatMap f)[m * i + k]? = (f a)[k]? := by
  induction l generalizing i with
  | nil => simp at ha
  | cons b l ih =>
    rw [List.flatMap_cons]
    cases i with
    | zero =>
      obtain rfl : b = a := by simpa using ha
      rw [Nat.mul_zero, Nat.zero_add, List.getElem?_append_left (by rw [hf]; exact hk)]
    | succ i =>
      have hplace : m * (i + 1) + k = (f b).length + (m * i + k) := by rw [hf]; ring
      rw [hplace, List.getElem?_append_right (Nat.le_add_right ..), Nat.add_sub_cancel_left]
      exact ih (by simpa using ha)

theorem length_expandEvents (key : Block) : (expandEvents key).length = 40 := by
  simp [expandEvents, List.length_flatMap, length_scheduleEvents]

theorem expandEvents_get (key : Block) (j : Fin 10) {k : Nat} (hk : k < 4) :
    (expandEvents key)[4 * j.val + k]? = (scheduleEvents (expandKey key)[j.val] j)[k]? := by
  have hj : (List.finRange 10)[j.val]? = some j := by simp
  rw [expandEvents, getElem?_flatMap_of_length (fun a => length_scheduleEvents _ a) hj hk, expandKey_get]

/-- Settles O28: ten steps of four events each, and the words of a step written out. -/
theorem keyScheduleEvents : Obligations.KeyScheduleEvents := by
  unfold Obligations.KeyScheduleEvents
  refine fun key => ⟨length_expandEvents key, fun j => ⟨?_, ?_, ?_, ?_⟩⟩
  · rw [← Nat.add_zero (4 * j.val), expandEvents_get key j (by decide)]
    simp [scheduleEvents, wordEvent, rotWord, toList_column]
  · rw [expandEvents_get key j (by decide)]
    simp [scheduleEvents, wordEvent, rotWord, subWord]
  · rw [expandEvents_get key j (by decide)]
    simp [scheduleEvents, wordEvent, rotWord, subWord, addRcon]
  · rw [expandEvents_get key j (by decide), expandKey_succ]
    rfl

/-! ## EXPAND_KEY (R216) -/

/-- Settles O27: the one check is of KLEN, and it decides between the expansion and InvalidKeyLength. -/
theorem expandKeyRunsOrFails : Obligations.ExpandKeyRunsOrFails := by
  unfold Obligations.ExpandKeyRunsOrFails
  refine ⟨rfl, fun s => ⟨fun hk => ?_, fun hk => ?_⟩⟩
  · have hf : failureOf s .expandKey = none := if_pos hk
    exact exec_success rfl hf
  · have hf : failureOf s .expandKey = some .invalidKeyLength := if_neg hk
    exact exec_failure rfl hf

end Sys2Proof.Machine
end

section
/-! PROOFS. The statements about the cipher core and its two commands (44_cipher_core.md). Eleven NEXT_STAGE run the list
of stages that ENCRYPT runs (`execAll_nextStage_replicate`); the rest of a stepwise encryption is one command at each
end. -/

namespace Sys2Proof.Machine

/-! ## The three forms of a stage (R240, R252) -/

theorem stage_zero (s : Matrix) (rk : Schedule) : stage 0 s rk = addRoundKey s rk[0] := rfl

theorem stage_middle {n : Fin 11} (h0 : n.val ≠ 0) (h10 : n.val ≠ 10) (s : Matrix) (rk : Schedule) :
    stage n s rk = addRoundKey (mixColumns (shiftRows (subBytes s))) rk[n] := by
  rw [stage, if_neg h0, if_neg h10]

theorem stage_ten (s : Matrix) (rk : Schedule) : stage 10 s rk = addRoundKey (shiftRows (subBytes s)) rk[10] := rfl

theorem stageEvents_middle {n : Fin 11} (h0 : n.val ≠ 0) (h10 : n.val ≠ 10) (s : Matrix) (rk : Schedule) :
    stageEvents n s rk =
      [matrixEvent .subBytes (BitVec.ofNat 8 n) s (subBytes s),
       matrixEvent .shiftRows (BitVec.ofNat 8 n) (subBytes s) (shiftRows (subBytes s)),
       matrixEvent .mixColumns (BitVec.ofNat 8 n) (shiftRows (subBytes s)) (mixColumns (shiftRows (subBytes s))),
       matrixEvent .addRoundKey (BitVec.ofNat 8 n) (mixColumns (shiftRows (subBytes s))) (stage n s rk)] := by
  rw [stageEvents, if_neg h0, if_neg h10]

/-- Settles O29: the first and the last stage by their numbers, the nine between them by being neither. -/
theorem stagesAndTheirEvents : Obligations.StagesAndTheirEvents := by
  unfold Obligations.StagesAndTheirEvents
  refine fun s rk => ⟨⟨stage_zero s rk, rfl⟩, fun n h1 h9 => ?_, ⟨stage_ten s rk, rfl⟩⟩
  have h0 : n.val ≠ 0 := by omega
  have h10 : n.val ≠ 10 := by omega
  rw [stageEvents_middle h0 h10, stage_middle h0 h10]
  exact ⟨rfl, rfl⟩

/-! ## The cipher (R241, R242) -/

/-- R241: the matrix the pipeline leaves is the ciphertext, encoded. -/
theorem encodeBlock_cipher (pt key : Block) :
    encodeBlock (cipher pt key) = pipeline (encodeBlock pt) (expandKey key) := by
  rw [cipher, encodeBlock_decodeMatrix]

/-- Settles O34: the cipher, run on each of the three vectors. -/
theorem cipherReproducesVectors : Obligations.CipherReproducesVectors := by
  unfold Obligations.CipherReproducesVectors
  refine ⟨?_, ?_, ?_⟩
  · decide +kernel
  · decide +kernel
  · decide +kernel

/-! ## ENCRYPT (R245) -/

/-- A block length and a key length of 16 pass both checks of ENCRYPT. -/
theorem failureOf_encrypt_of_lengths {s : State} (hb : s.blen = 16#8) (hk : s.klen = 16#8) :
    failureOf s .encrypt = none := by
  simp [failureOf, hb, hk]

/-- R245: what LOAD_STATE and the pipeline change: STATE and TRACE. -/
theorem runPipeline_loadBlock (s : State) :
    runPipeline (loadBlock s) =
      setState (pipeline (encodeBlock s.din) s.rk) (emitAll (pipelineEvents (encodeBlock s.din) s.rk) s) := by
  rw [runPipeline_eq, loadBlock_state, loadBlock_rk]
  rfl

theorem emitAll_setSchedule (es : List Event) (rk : Schedule) (s : State) :
    emitAll es (setSchedule rk s) = setSchedule rk (emitAll es s) := rfl

/-- R245: the fresh schedule, the ciphertext in STATE, and the events of both parts. -/
theorem runPipeline_loadBlock_runKeySchedule (s : State) :
    runPipeline (loadBlock (runKeySchedule s)) =
      setState (encodeBlock (cipher s.din s.key)) (setSchedule (expandKey s.key)
        (emitAll (expandEvents s.key ++ pipelineEvents (encodeBlock s.din) (expandKey s.key)) s)) := by
  rw [runPipeline_loadBlock, runKeySchedule_din, runKeySchedule_rk, runKeySchedule, emitAll_setSchedule,
    emitAll_emitAll, encodeBlock_cipher]

/-- R245: the next state of ENCRYPT, field by field. -/
theorem complete_effectOf_encrypt (s : State) :
    complete (effectOf s .encrypt) = { s with
      rk := expandKey s.key
      kv := true
      state := encodeBlock (cipher s.din s.key)
      dout := cipher s.din s.key
      stage := 11
      trace := s.trace ++ (if s.traceEn then
        expandEvents s.key ++ pipelineEvents (encodeBlock s.din) (expandKey s.key) else [])
      errcode := 0x00 } := by
  rw [effectOf, runPipeline_loadBlock_runKeySchedule, storeBlock, setState_state, decodeMatrix_encodeBlock]
  simp only [complete, setStage, setState, setSchedule, emitAll, okByte]

/-- Settles O30: BLEN is checked first, then KLEN; with both in order the effect is the whole encryption. -/
theorem encryptRunsOrFails : Obligations.EncryptRunsOrFails := by
  unfold Obligations.EncryptRunsOrFails
  refine ⟨rfl, fun s => ⟨fun hb hk => ?_, fun hb => ?_, fun hb hk => ?_⟩⟩
  · rw [exec_success rfl (failureOf_encrypt_of_lengths hb hk), complete_effectOf_encrypt]
  · have hf : failureOf s .encrypt = some .invalidBlockLength := if_neg hb
    exact exec_failure rfl hf
  · have hf : failureOf s .encrypt = some .invalidKeyLength := by simp [failureOf, hb, hk]
    exact exec_failure rfl hf

/-! ## NEXT_STAGE (R250, R251) -/

/-- Settles O32: KV is checked first, then STAGE; with both in order stage STAGE runs. -/
theorem nextStageRunsOrFails : Obligations.NextStageRunsOrFails := by
  unfold Obligations.NextStageRunsOrFails
  refine ⟨rfl, fun s => ⟨fun n hk hn => ?_, fun hk => ?_, fun hk hn => ?_⟩⟩
  · exact exec_nextStage n hk hn
  · exact exec_failure rfl (failureOf_nextStage_of_kv hk)
  · have hf : failureOf s .nextStage = some .sequence := by simp [failureOf, hk, hn]
    exact exec_failure rfl hf

/-- A stage neither reads nor writes STAGE and ERRCODE. -/
theorem complete_setStage_runStage_complete (n : Fin 11) (m l : Fin 12) (s : State) :
    complete (setStage m (runStage n (complete (setStage l s)))) = complete (setStage m (runStage n s)) := rfl

/-- `k` NEXT_STAGE from STAGE 0 run the first `k` stages, by induction on `k`: each one finds STAGE where the one before
left it. The state they start from is one that LOAD_STATE leaves. -/
theorem execAll_nextStage_replicate {s : State} (hkv : s.kv = true) (k : Nat) (hk : k < 12) :
    execAll (List.replicate k .nextStage) (complete (setStage 0 s)) =
      .next (complete (setStage ⟨k, hk⟩ (((List.finRange 11).take k).foldl (fun t n => runStage n t) s))) := by
  induction k with
  | zero => rfl
  | succ k ih =>
    have hk11 : k < 11 := by omega
    have hget : (List.finRange 11)[k]? = some ⟨k, hk11⟩ := by simp [hk11]
    rw [List.replicate_succ', execAll_append _ _ _ _ (ih (by omega)),
      execAll_cons (exec_nextStage ⟨k, hk11⟩ (by simp [foldl_runStage, hkv]) rfl),
      complete_setStage_runStage_complete, List.take_add_one, hget, List.foldl_append]
    rfl

/-- R251: LOAD_STATE and eleven NEXT_STAGE load DIN and run the pipeline. -/
theorem execAll_loadState_nextStages {s : State} (hkv : s.kv = true) (hb : s.blen = 16#8) :
    execAll (.loadState :: List.replicate 11 .nextStage) s =
      .next (complete (setStage 11 (runPipeline (loadBlock s)))) := by
  have hf : failureOf s .loadState = none := if_pos hb
  have hkv' : (loadBlock s).kv = true := hkv
  rw [execAll_cons (exec_success rfl hf), effectOf, execAll_nextStage_replicate hkv' 11 (by decide),
    List.take_of_length_le (by simp), runPipeline]
  rfl

/-- Settles O33: the pipeline runs with the schedule of KEY, and it does not write DOUT. -/
theorem stepwisePipelineCompletes : Obligations.StepwisePipelineCompletes := by
  unfold Obligations.StepwisePipelineCompletes
  intro s hkv hvalid hb
  refine ⟨_, execAll_loadState_nextStages hkv hb, ?_, rfl, ?_, rfl⟩
  · simp [runPipeline_eq, hvalid hkv, cipher]
  · simp [runPipeline_eq]

/-! ## ENCRYPT and the stepwise commands (R246) -/

/-- LOAD_STATE and the pipeline neither read ERRCODE nor write it. -/
theorem runPipeline_loadBlock_complete (s : State) :
    runPipeline (loadBlock (complete s)) = complete (runPipeline (loadBlock s)) := by
  rw [runPipeline_eq, runPipeline_eq]
  rfl

/-- STORE_STATE after a command that completed stores the same as before it. -/
theorem execAll_storeState_complete (n : Fin 12) (s : State) :
    execAll [.storeState] (complete (setStage n (complete s))) = .next (complete (setStage n (storeBlock s))) := rfl

/-- Settles O31: the thirteen commands before STORE_STATE leave what ENCRYPT stores in DOUT. -/
theorem encryptEqualsStepwise : Obligations.EncryptEqualsStepwise := by
  unfold Obligations.EncryptEqualsStepwise
  intro s hb hk
  have hf : failureOf s .expandKey = none := if_pos hk
  have hsplit : stepwiseEncrypt = .expandKey :: ((.loadState :: List.replicate 11 .nextStage) ++ [.storeState]) := rfl
  have hkv : (complete (runKeySchedule s)).kv = true := by simp
  have hb' : (complete (runKeySchedule s)).blen = 16#8 := by simp [hb]
  calc execAll stepwiseEncrypt s
      = execAll ((.loadState :: List.replicate 11 .nextStage) ++ [.storeState]) (complete (runKeySchedule s)) := by
        rw [hsplit, execAll_cons (exec_success rfl hf), effectOf]
    _ = execAll [.storeState] (complete (setStage 11 (complete (runPipeline (loadBlock (runKeySchedule s)))))) := by
        rw [execAll_append _ _ _ _ (execAll_loadState_nextStages hkv hb'), runPipeline_loadBlock_complete]
    _ = exec .encrypt s := by
        rw [execAll_storeState_complete, exec_success rfl (failureOf_encrypt_of_lengths hb hk), effectOf]

end Sys2Proof.Machine
end

section
/-! PROOFS. The statements about the trace (45_instrumentation.md). How many events a command emits is a fact about its
list `eventsOf`. That the trace alters nothing else is said through `hideTrace`: every operation gives the same hidden
state whether or not it is hidden beforehand. -/

namespace Sys2Proof.Machine

/-! ## What the trace hides (R277) -/

/-- R277: the state with TRACE, TRACE_EN and the bytes read so far hidden. A read of CTRL returns TRACE_EN, so the bytes
read may differ too. -/
def hideTrace (s : State) : State :=
  { toArch := untraced s.toArch, pending := s.pending, responses := [], resets := s.resets }

theorem sameButTrace_iff {s t : State} : SameButTrace s t ↔ hideTrace s = hideTrace t := by
  simp [SameButTrace, hideTrace]

/-- R271: with TRACE_EN hidden, and so 0, nothing is emitted. -/
theorem emitAll_hideTrace (es : List Event) (s : State) : emitAll es (hideTrace s) = hideTrace s := rfl

theorem hideTrace_transformState (k : EventKind) (i : Byte) (m : Matrix) (s : State) :
    hideTrace (transformState k i m s) = transformState k i m (hideTrace s) := rfl

theorem hideTrace_runStage (n : Fin 11) (s : State) : hideTrace (runStage n s) = runStage n (hideTrace s) := rfl

theorem hideTrace_runPipeline (s : State) : hideTrace (runPipeline s) = runPipeline (hideTrace s) := by
  rw [runPipeline_eq, runPipeline_eq, emitAll_hideTrace]
  rfl

theorem selectedKey_hideTrace (s : State) : selectedKey (hideTrace s) = selectedKey s := rfl

/-! ## No operation reads the trace (R270, R277) -/

/-- No check reads what is hidden (R318). -/
theorem failureOf_hideTrace (s : State) (i : Instr) : failureOf (hideTrace s) i = failureOf s i := by
  cases i <;> rfl

/-- No command's effect on the rest depends on what is hidden. -/
theorem hideTrace_effectOf (s : State) (i : Instr) : hideTrace (effectOf s i) = effectOf (hideTrace s) i := by
  cases i with
  | encrypt =>
    have hpipe := hideTrace_runPipeline (loadBlock (runKeySchedule s))
    exact congrArg (fun t => setStage 11 (storeBlock t)) hpipe
  | addRoundKey =>
    simp only [effectOf, selectedKey_hideTrace]
    split
    · exact hideTrace_transformState ..
    · rfl
  | nextStage =>
    by_cases hs : s.stage.val < 11
    · have hs' : (hideTrace s).stage.val < 11 := hs
      simp only [effectOf, hs, hs', dif_pos]
      exact congrArg (setStage _) (hideTrace_runStage ⟨s.stage.val, hs⟩ s)
    · have hs' : ¬ (hideTrace s).stage.val < 11 := hs
      simp only [effectOf, hs, hs', dif_neg, not_false_eq_true]
  | _ => rfl

/-- A CTRL write stores a byte that does not depend on TRACE_EN, and no other register write touches what is hidden. -/
theorem hideTrace_writeReg (d : Byte) (s : State) (r : Reg) :
    hideTrace (writeReg d s r) = hideTrace (writeReg d (hideTrace s) r) := by
  cases r <;> rfl

/-! ## Two runs that differ in the trace only -/

theorem sameButTrace_command {s t : State} (h : SameButTrace s t) {c : Instr} (hc : c.isCommand = true) :
    OutcomesAgree SameButTrace (exec c s) (exec c t) := by
  rw [sameButTrace_iff] at h
  have hfail : failureOf s c = failureOf t c := by rw [← failureOf_hideTrace s, h, failureOf_hideTrace]
  have heffect : hideTrace (effectOf s c) = hideTrace (effectOf t c) := by
    rw [hideTrace_effectOf, h, hideTrace_effectOf]
  cases hf : failureOf t c with
  | none =>
    rw [exec_success hc (hfail.trans hf), exec_success hc hf]
    exact sameButTrace_iff.2 (congrArg complete heffect)
  | some e =>
    rw [exec_failure hc (hfail.trans hf), exec_failure hc hf]
    exact sameButTrace_iff.2 (congrArg (raiseError e) h)

theorem sameButTrace_exec {s t : State} (h : SameButTrace s t) (i : Instr) :
    OutcomesAgree SameButTrace (exec i s) (exec i t) := by
  rcases exec_cases i s with ⟨a, rfl, -⟩ | ⟨a, d, rfl, ha, -⟩ | ⟨d, e, rfl, hd, -⟩ | ⟨c, hc, hi, -⟩
  · exact h
  · rw [exec_busWrite_reg ha, exec_busWrite_reg ha]
    refine sameButTrace_iff.2 ?_
    rw [hideTrace_writeReg, sameButTrace_iff.1 h, ← hideTrace_writeReg]
  · rw [exec_busWrite_illegal hd, exec_busWrite_illegal hd]
    exact sameButTrace_iff.2 (congrArg (raiseError .illegalCommand) (sameButTrace_iff.1 h))
  · rw [exec_eq_command hi, exec_eq_command hi]
    exact sameButTrace_command h hc

/-- The two resets leave the same free value in RK, since both runs have had as many (log entry 2). -/
theorem sameButTrace_resetPin {s t : State} (h : SameButTrace s t) : SameButTrace (resetPin s) (resetPin t) :=
  sameButTrace_iff.2 (congrArg resetPin (sameButTrace_iff.1 h))

theorem sameButTrace_deliver {s t : State} (h : SameButTrace s t) (e : HostEvent) :
    OutcomesAgree SameButTrace (deliver e s) (deliver e t) := by
  cases e with
  | access w =>
    simp only [deliver]
    split
    · exact sameButTrace_exec h _
    · exact rfl
  | reset => exact sameButTrace_resetPin h
  | abandoned w => exact sameButTrace_resetPin h
  | accessInReset w => exact rfl

theorem sameButTrace_step {s t : State} (h : SameButTrace s t) : OutcomesAgree SameButTrace (step s) (step t) := by
  obtain ⟨harch, hpending, hresets⟩ := h
  unfold step
  rw [hpending]
  split
  next => exact ⟨harch, hpending, hresets⟩
  next e rest _ =>
    exact sameButTrace_deliver (s := { s with pending := rest }) (t := { t with pending := rest })
      ⟨harch, rfl, hresets⟩ e

/-- Settles O50, by induction on the number of steps: a step of two such states stops both for one reason or gives two
such states. -/
theorem traceNeverAltersRun : Obligations.TraceNeverAltersRun := by
  unfold Obligations.TraceNeverAltersRun
  exact runSteps_agree fun _ _ h => sameButTrace_step h

/-- Settles O49: the two states the instruction starts from differ in TRACE_EN only. -/
theorem traceNeverAltersResult : Obligations.TraceNeverAltersResult := by
  unfold Obligations.TraceNeverAltersResult
  intro i s
  obtain ⟨t, ht⟩ := exec_next i { s with traceEn := true }
  obtain ⟨u, hu⟩ := exec_next i { s with traceEn := false }
  have hstart : SameButTrace { s with traceEn := true } { s with traceEn := false } := ⟨rfl, rfl, rfl⟩
  have hend := sameButTrace_exec hstart i
  rw [ht, hu] at hend
  obtain ⟨harch, -, -⟩ := hend
  exact ⟨t, u, ht, hu, harch⟩

/-! ## How many events a command emits (R275, R276) -/

/-- R252: the number of transformations in a stage. -/
theorem length_stageEvents (n : Fin 11) (m : Matrix) (rk : Schedule) :
    (stageEvents n m rk).length = if n.val = 0 then 1 else if n.val = 10 then 3 else 4 := by
  unfold stageEvents
  split
  · rfl
  · split <;> rfl

/-- R275: one, nine times four, and three. -/
theorem length_pipelineEvents (m : Matrix) (rk : Schedule) : (pipelineEvents m rk).length = 40 := by
  simp only [pipelineEvents, List.length_flatMap, length_stageEvents]
  decide

/-- R275, R276: a command that no check stops emits as many events as stated. -/
theorem length_eventsOf {s : State} {i : Instr} (hi : failureOf s i = none) :
    (eventsOf s i).length = eventCount s.stage.val i := by
  cases i with
  | expandKey => exact length_expandEvents s.key
  | encrypt => rw [eventsOf, List.length_append, length_expandEvents, length_pipelineEvents, eventCount]
  | addRoundKey =>
    obtain ⟨-, hr⟩ := failureOf_addRoundKey hi
    simp only [eventsOf, selectedKey_some hr, List.length_singleton, eventCount]
  | nextStage =>
    obtain ⟨-, hs⟩ := failureOf_nextStage hi
    simp only [eventsOf, hs, dif_pos, length_stageEvents, eventCount]
  | _ => rfl

/-- Settles O48: a command that completes appends `eventsOf` if TRACE_EN = 1, and one that fails nothing. -/
theorem traceGrowsByStatedCount : Obligations.TraceGrowsByStatedCount := by
  unfold Obligations.TraceGrowsByStatedCount
  intro i s t hi h
  rcases exec_command_cases hi h with ⟨hf, rfl⟩ | ⟨e, -, rfl⟩
  · refine ⟨if s.traceEn then eventsOf s i else [], effectOf_trace s i, ?_⟩
    cases hen : s.traceEn with
    | true => simp [okByte, length_eventsOf hf]
    | false => simp
  · refine ⟨[], by simp, ?_⟩
    have hcode : (raiseError e s).errcode ≠ 0x00 := errorByte_ne_zero e
    rw [if_neg fun hok => hcode hok.2, List.length_nil]

end Sys2Proof.Machine
end

section
/-! PROOFS. The statements about host access (46_host_access.md): which command a CMD write runs, what a bus read
returns and a bus write changes at each address, how an event stands on the trace port, and why a host that keeps its
duties never stops the machine. The single addresses are reached through `addressOf`, which gives each register's. -/

namespace Sys2Proof.Machine

/-! ## Commands by a CMD write (R296, R297) -/

/-- R296: a write of a command's opcode to CMD runs the command. -/
theorem exec_busWrite_opcode {d : Byte} {i : Instr} (h : decodeCommand d = .ok i) (s : State) :
    exec (.busWrite 0x50 d) s = exec i s :=
  exec_eq_command (.inr ⟨d, rfl, h⟩) s

/-- R310, R317: what IllegalCommand writes. -/
theorem raiseError_illegalCommand (s : State) :
    raiseError .illegalCommand s = { s with errcode := 0x04, err := true } := rfl

/-- Settles O6: each opcode decodes to its command, and a byte that is no opcode decodes to none. -/
theorem cmdWriteDispatches : Obligations.CmdWriteDispatches := by
  unfold Obligations.CmdWriteDispatches
  intro s
  have run {d : Byte} {i : Instr} (h : decodeCommand d = .ok i) := exec_busWrite_opcode h s
  refine ⟨run rfl, run rfl, run rfl, run rfl, run rfl, run rfl, run rfl, run rfl, run rfl, run rfl, run rfl, run rfl,
    fun op hop => ?_⟩
  obtain ⟨e, he⟩ := (not_mem_definedOpcodes_iff op).1 hop
  rw [exec_busWrite_illegal he, raiseError_illegalCommand]

/-- Settles O35: NOP has no check and no effect, so it only completes. -/
theorem nopReportsSuccess : Obligations.NopReportsSuccess := by
  unfold Obligations.NopReportsSuccess
  refine ⟨rfl, fun s => ?_⟩
  have hf : failureOf s .nop = none := rfl
  exact exec_success rfl hf

/-! ## What a bus read returns (R290) -/

/-- R290: a read at a register's address returns the register's byte. -/
theorem exec_busRead_addressOf {s : State} {r : Reg} {a v : Byte} (ha : addressOf r = some a) (hv : readReg s r = v) :
    exec (.busRead a) s = .next { s with responses := s.responses ++ [v] } := by
  rw [exec_busRead, readRegister, regAt_of_addressOf ha, hv, respond]

/-- R73: a reserved address reads zero. -/
theorem exec_busRead_reserved {a : Byte} (ha : 0x5D ≤ a.toNat) (s : State) :
    exec (.busRead a) s = .next { s with responses := s.responses ++ [0x00] } := by
  rw [exec_busRead, readRegister, (regAt_reserved_iff a).2 ha, readReg, respond]

theorem statusByte_eq (err kv : Bool) : statusByte err kv = BitVec.ofNat 8 (2 * err.toNat + kv.toNat) := by
  revert err kv; decide

theorem ctrlByte_eq (traceEn : Bool) : ctrlByte traceEn = if traceEn then 0x01 else 0x00 := by
  revert traceEn; decide

/-- R46: RKWIN shows the selected round key in block order. -/
theorem readReg_rkwin_of_selected {s : State} (hk : s.kv = true) (hr : s.rksel.toNat < 11) (i : Fin 16) :
    readReg s (.rkwin i) = s.rk[s.rksel.toNat][i.val % 4][i.val / 4] := by
  simp [readReg, rkwinByte, hk, selectedKey_some hr]

/-- R46: RKWIN reads zero when RKSEL names no round key. -/
theorem readReg_rkwin_of_rksel {s : State} (hr : 10 < s.rksel.toNat) (i : Fin 16) : readReg s (.rkwin i) = 0 := by
  simp [readReg, rkwinByte, selectedKey_none hr]

/-- Settles O36: the register at each address, and what is read from it. -/
theorem busReadReturns : Obligations.BusReadReturns := by
  unfold Obligations.BusReadReturns
  intro s reads
  have read {r : Reg} {a v : Byte} (ha : addressOf r = some a) (hv : readReg s r = v) : reads a v :=
    exec_busRead_addressOf ha hv
  refine ⟨fun i => read (r := .key i) rfl rfl, fun i => read (r := .din i) rfl rfl,
    fun i => read (r := .dout i) rfl rfl, fun i => read (r := .stateView i) rfl (decodeMatrix_get _ _ i.isLt),
    fun i hr hk => read (r := .rkwin i) rfl (readReg_rkwin_of_selected hk hr i),
    fun i h => read (r := .rkwin i) rfl ?_,
    read (r := .cmd) rfl rfl, read (r := .status) rfl (statusByte_eq _ _), read (r := .errcode) rfl rfl,
    read (r := .ctrl) rfl (ctrlByte_eq _), read (r := .klen) rfl rfl, read (r := .blen) rfl rfl,
    read (r := .rksel) rfl rfl, read (r := .stage) rfl rfl, read (r := .gfA) rfl rfl, read (r := .gfB) rfl rfl,
    read (r := .gfP) rfl rfl, read (r := .sboxIn) rfl rfl, read (r := .sboxOut) rfl rfl,
    fun a ha => exec_busRead_reserved ha s⟩
  rcases h with hk | hr
  · exact readReg_rkwin_of_kv hk i
  · exact readReg_rkwin_of_rksel hr i

/-! ## What a bus write changes (R291) -/

/-- R291: a write at the address of a register other than CMD writes that register. -/
theorem exec_busWrite_addressOf {r : Reg} {a : Byte} (ha : addressOf r = some a) (hr : r ≠ .cmd) (d : Byte)
    (s : State) : exec (.busWrite a d) s = .next (writeReg d s r) := by
  have hreg := regAt_of_addressOf ha
  have hcmd : a ≠ 0x50 := fun h => hr (hreg.symm.trans ((regAt_cmd_iff a).2 h))
  rw [exec_busWrite_reg hcmd, hreg]

/-- R72: the three read-only windows are DOUT, STATE and RKWIN. -/
theorem regAt_readOnlyWindow {a : Byte} (hlo : 0x20 ≤ a.toNat) (hhi : a.toNat ≤ 0x4F) :
    ∃ i, regAt a = .dout i ∨ regAt a = .stateView i ∨ regAt a = .rkwin i := by
  revert a; decide +kernel

/-- R291: a write to a read-only window is ignored. -/
theorem exec_busWrite_readOnlyWindow {a : Byte} (hlo : 0x20 ≤ a.toNat) (hhi : a.toNat ≤ 0x4F) (d : Byte)
    (s : State) : exec (.busWrite a d) s = .next s := by
  have hcmd : a ≠ 0x50 := by rintro rfl; exact absurd hhi (by decide)
  rw [exec_busWrite_reg hcmd]
  obtain ⟨i, h | h | h⟩ := regAt_readOnlyWindow hlo hhi <;> rw [h, writeReg]

/-- R73: a write to a reserved address is ignored. -/
theorem exec_busWrite_reserved {a : Byte} (ha : 0x5D ≤ a.toNat) (d : Byte) (s : State) :
    exec (.busWrite a d) s = .next s := by
  have hcmd : a ≠ 0x50 := by rintro rfl; exact absurd ha (by decide)
  rw [exec_busWrite_reg hcmd, (regAt_reserved_iff a).2 ha, writeReg]

/-- Settles O37: the register at each address, and what is written to it; at CMD the command the byte decodes to. -/
theorem busWriteChanges : Obligations.BusWriteChanges := by
  unfold Obligations.BusWriteChanges
  intro s d
  have write {r : Reg} {a : Byte} (ha : addressOf r = some a) (hr : r ≠ .cmd) := exec_busWrite_addressOf ha hr d s
  refine ⟨fun i => write (r := .key i) rfl nofun, fun i => write (r := .din i) rfl nofun,
    fun a hlo hhi => exec_busWrite_readOnlyWindow hlo hhi d s,
    fun i h => exec_busWrite_opcode h s,
    fun e h => (exec_busWrite_illegal h s).trans (congrArg _ (raiseError_illegalCommand s)),
    write (r := .status) rfl nofun, write (r := .errcode) rfl nofun, write (r := .ctrl) rfl nofun,
    write (r := .klen) rfl nofun, write (r := .blen) rfl nofun, write (r := .rksel) rfl nofun,
    write (r := .stage) rfl nofun, write (r := .gfA) rfl nofun, write (r := .gfB) rfl nofun,
    write (r := .gfP) rfl nofun, write (r := .sboxIn) rfl nofun, write (r := .sboxOut) rfl nofun,
    fun a ha => exec_busWrite_reserved ha d s⟩

/-! ## An event on the trace port (R301) -/

theorem portBytes_nil : portBytes [] = 0 := rfl

theorem portBytes_cons (b : Byte) (bs : List Byte) :
    portBytes (b :: bs) = (portBytes bs <<< 8) ||| b.zeroExtend 128 := rfl

/-- R301: the first byte is on the lowest eight bits. -/
theorem portBytes_cons_low (b : Byte) (bs : List Byte) : (portBytes (b :: bs)).extractLsb' 0 8 = b := by
  rw [portBytes_cons]
  ext j hj
  have hport : j < 128 := by omega
  simp [hj, hport]

/-- R301: the other bytes stand one byte higher than they would without it, as far as the port reaches. -/
theorem portBytes_cons_high (b : Byte) (bs : List Byte) {i : Nat} (hi : i + 1 < 16) :
    (portBytes (b :: bs)).extractLsb' (8 * (i + 1)) 8 = (portBytes bs).extractLsb' (8 * i) 8 := by
  rw [portBytes_cons]
  ext j hj
  have hport : 8 * (i + 1) + j < 128 := by omega
  have hshift : 8 * (i + 1) + j - 8 = 8 * i + j := by omega
  have habove : 8 ≤ 8 * (i + 1) + j := by omega
  simp [hport, hshift, Nat.not_lt.2 habove, BitVec.getLsbD_of_ge b _ habove, ← BitVec.getLsbD_eq_getElem]

/-- R301: byte `i` is on bits 8i+7..8i, and past the last byte the port is zero. -/
theorem portBytes_extract (bs : List Byte) {i : Nat} (hi : i < 16) :
    (portBytes bs).extractLsb' (8 * i) 8 = bs.getD i 0 := by
  induction bs generalizing i with
  | nil => simp [portBytes_nil]
  | cons b bs ih =>
    cases i with
    | zero => exact portBytes_cons_low b bs
    | succ i => rw [portBytes_cons_high b bs hi, ih (by omega), List.getD_cons_succ]

/-- R274: an event shows words of 4 bytes or matrices of 16. -/
theorem eventLength_cases (k : EventKind) : eventLength k = 4 ∨ eventLength k = 16 := by
  cases k with
  | ksRotWord | ksSubWord | ksRcon => exact .inl rfl
  | _ => exact .inr rfl

/-- Settles O51: the length of a legal event is 4 or 16, which five bits hold, and its two byte lists have that
length. -/
theorem portPlacesBytes : Obligations.PortPlacesBytes := by
  unfold Obligations.PortPlacesBytes
  refine ⟨⟨rfl, rfl, rfl, rfl, rfl, rfl, rfl, rfl⟩, fun e he => ?_⟩
  obtain ⟨-, hbefore, hafter⟩ := he
  have hlen : (portOf e).len = BitVec.ofNat 5 (eventLength e.kind) := congrArg (BitVec.ofNat 5) hbefore
  have hport : ((portOf e).len = 4 ∨ (portOf e).len = 16) ∧ (portOf e).len.toNat = eventLength e.kind := by
    rw [hlen]
    rcases eventLength_cases e.kind with h | h <;> rw [h] <;> decide
  obtain ⟨hvalue, hnat⟩ := hport
  refine ⟨rfl, rfl, hvalue, hnat.trans hbefore.symm, fun i => ?_⟩
  have hb : (portOf e).before.extractLsb' (8 * i.val) 8 = e.before.getD i.val 0 := portBytes_extract _ i.isLt
  have ha : (portOf e).after.extractLsb' (8 * i.val) 8 = e.after.getD i.val 0 := portBytes_extract _ i.isLt
  refine ⟨hb, ha, fun hi => ?_⟩
  rw [hnat] at hi
  rw [hb, ha]
  exact ⟨List.getD_eq_default _ _ (hbefore ▸ hi), List.getD_eq_default _ _ (hafter ▸ hi)⟩

/-! ## What an instruction does to the host's side (R292) -/

/-- R292: an instruction other than a read takes nothing from the events to come and gives the host no byte. -/
theorem exec_hostSide {i : Instr} {s t : State} (hi : ∀ a, i ≠ .busRead a) (h : exec i s = .next t) :
    t.pending = s.pending ∧ t.responses = s.responses := by
  rcases exec_cases i s with ⟨a, hread, -⟩ | ⟨a, d, -, -, he⟩ | ⟨d, e, -, -, he⟩ | ⟨c, hc, -, he⟩
  · exact absurd hread (hi a)
  · cases he.symm.trans h
    obtain ⟨-, -, -, -, -, -, -, -, hpending, hresponses, -⟩ := writeReg_frame d s (regAt a)
    exact ⟨hpending, hresponses⟩
  · cases he.symm.trans h
    exact ⟨rfl, rfl⟩
  · rcases exec_command_cases hc (he.symm.trans h) with ⟨-, rfl⟩ | ⟨e, -, rfl⟩
    · exact ⟨(effectOf_frame s c).pending, (effectOf_frame s c).responses⟩
    · exact ⟨rfl, rfl⟩

/-- R100: a write word stands for no read. -/
theorem decode_ne_busRead {w : Txn} {i : Instr} (hw : txnWrite w = true) (h : decode w = .ok i) (a : Byte) :
    i ≠ .busRead a := by
  rintro rfl
  rcases decode_ok_cases h with ⟨b, rfl, -⟩ | ⟨op, -, hop⟩ | ⟨b, d, -, hi, -⟩
  · cases (txnWrite_txnOf false b 0).symm.trans hw
  · cases decodeCommand_isCommand hop
  · cases hi

/-- R100: a read word stands for a read. -/
theorem decode_eq_busRead {w : Txn} {i : Instr} (hw : txnWrite w = false) (h : decode w = .ok i) :
    ∃ a, i = .busRead a := by
  rcases decode_ok_cases h with ⟨a, -, hi⟩ | ⟨op, rfl, -⟩ | ⟨a, d, rfl, -⟩
  · exact ⟨a, hi⟩
  · cases (txnWrite_txnOf true cmdAddress op).symm.trans hw
  · cases (txnWrite_txnOf true a d).symm.trans hw

/-- R299: a canonical transaction completes, and gives back one byte exactly if it is a read. -/
theorem deliver_canonical {w : Txn} (hw : txnCanonical w = true) (s : State) :
    ∃ t, deliver (.access w) s = .next t ∧ t.pending = s.pending ∧
      t.responses.length = s.responses.length + (readsOf [w]).length := by
  obtain ⟨i, hi⟩ := decode_canonical hw
  rw [deliver_access hi]
  cases hwr : txnWrite w with
  | true =>
    obtain ⟨t, ht⟩ := exec_next i s
    obtain ⟨hpending, hresponses⟩ := exec_hostSide (decode_ne_busRead hwr hi) ht
    exact ⟨t, ht, hpending, by simp [hresponses, readsOf, hwr]⟩
  | false =>
    obtain ⟨a, rfl⟩ := decode_eq_busRead hwr hi
    exact ⟨_, exec_busRead a s, rfl, by simp [respond, readsOf, hwr]⟩

/-! ## The step and the runs of a host program (R299, R300) -/

/-- R83: a step takes the oldest event off and delivers it. -/
theorem step_of_pending {s : State} {e : HostEvent} {rest : List HostEvent} (h : s.pending = e :: rest) :
    step s = deliver e { s with pending := rest } := by
  simp only [step, h]

/-- Settles O7: the access is delivered, and its word is decoded. -/
theorem stepRunsDecodedInstruction : Obligations.StepRunsDecodedInstruction := by
  unfold Obligations.StepRunsDecodedInstruction
  intro s w rest i hp hd
  rw [step_of_pending hp, deliver_access hd]

/-- R299, R300: an event of a host that keeps its duties is answered, and what is still to come is left alone. -/
theorem deliver_allowed {e : HostEvent} (he : e.Allowed) (s : State) :
    ∃ t, deliver e s = .next t ∧ t.pending = s.pending := by
  cases e with
  | access w =>
    obtain ⟨t, ht, hp, -⟩ := deliver_canonical he s
    exact ⟨t, ht, hp⟩
  | reset => exact ⟨_, rfl, rfl⟩
  | abandoned w => exact ⟨_, rfl, rfl⟩
  | accessInReset w => exact he.elim

/-- Settles O58: the oldest event is answered, and the events after it are the ones left. -/
theorem allowedHostNeverStopsMachine : Obligations.AllowedHostNeverStopsMachine := by
  unfold Obligations.AllowedHostNeverStopsMachine
  intro s hs
  cases hp : s.pending with
  | nil => exact ⟨s, by simp only [step, hp], hs⟩
  | cons e rest =>
    rw [hp, List.forall_mem_cons] at hs
    obtain ⟨he, hrest⟩ := hs
    obtain ⟨t, ht, htp⟩ := deliver_allowed he { s with pending := rest }
    exact ⟨t, (step_of_pending hp).trans ht, htp ▸ hrest⟩

/-- The reads of a program are counted word by word. -/
theorem length_readsOf_cons (w : Txn) (program : List Txn) :
    (readsOf (w :: program)).length = (readsOf [w]).length + (readsOf program).length := by
  rw [← List.length_append, readsOf, readsOf, readsOf, ← List.filter_append, List.singleton_append]

/-- R299: a program of canonical words that stands in `pending` runs to its end. -/
theorem runSteps_of_pending_program (program : List Txn) (hprogram : ∀ w ∈ program, txnCanonical w = true)
    (s : State) (hs : s.pending = program.map HostEvent.access) :
    ∃ t, runSteps program.length s = .next t ∧ t.pending = [] ∧
      t.responses.length = s.responses.length + (readsOf program).length := by
  induction program generalizing s with
  | nil => exact ⟨s, rfl, hs, rfl⟩
  | cons w program ih =>
    rw [List.forall_mem_cons] at hprogram
    obtain ⟨hw, hrest⟩ := hprogram
    obtain ⟨u, hu, hup, hur⟩ := deliver_canonical hw { s with pending := program.map HostEvent.access }
    obtain ⟨t, ht, htp, htr⟩ := ih hrest u hup
    refine ⟨t, ?_, htp, ?_⟩
    · rw [List.length_cons, runSteps, step_of_pending hs, hu]
      exact ht
    · rw [htr, hur, length_readsOf_cons w program, Nat.add_assoc]

/-- Settles O57, by induction on the program: each word's transaction completes and leaves the rest to come. -/
theorem hostProgramRunsToItsEnd : Obligations.HostProgramRunsToItsEnd := by
  unfold Obligations.HostProgramRunsToItsEnd
  intro program s hprogram
  exact runSteps_of_pending_program program hprogram (withProgram program s) rfl

end Sys2Proof.Machine
end

section
/-! PROOFS. The statements about errors (60_exceptions.md) and about independent instances (its section 8). What a
command reports is read off `failureOf`, the first check that fails; what it changes then is `raiseError`'s to say. -/

namespace Sys2Proof.Machine

/-! ## Undefined opcodes (R314) -/

/-- R105, R314: the undefined opcode bytes are the three ranges between and after the defined ones. -/
theorem decodeCommand_illegal_iff (op : Byte) :
    decodeCommand op = .error (.illegalCommand op) ↔
      (0x03 ≤ op.toNat ∧ op.toNat ≤ 0x0F) ∨ (0x17 ≤ op.toNat ∧ op.toNat ≤ 0x1F) ∨ 0x22 ≤ op.toNat := by
  revert op; decide +kernel

/-- Settles O5: a byte of the three ranges decodes to no command, so a CMD write of it raises IllegalCommand. -/
theorem illegalCommandRaises : Obligations.IllegalCommandRaises := by
  unfold Obligations.IllegalCommandRaises
  refine ⟨decodeCommand_illegal_iff, fun s op hop => ?_⟩
  rw [exec_busWrite_illegal ((decodeCommand_illegal_iff op).2 hop), raiseError_illegalCommand]

/-! ## What a command reports (R318) -/

/-- R310: what ERRCODE gets when the checks of a command find the error `o`, or none. -/
def reportedCode (o : Option ErrorCode) : Byte := o.elim okByte errorByte

/-- R41, R317: a command reports the code of the first check that fails, or success. -/
theorem exec_command_errcode {i : Instr} (hi : i.isCommand = true) (s : State) :
    ∃ t, exec i s = .next t ∧ t.errcode = reportedCode (failureOf s i) := by
  cases hf : failureOf s i with
  | none => exact ⟨_, exec_success hi hf, complete_errcode _⟩
  | some e => exact ⟨_, exec_failure hi hf, raiseError_errcode e s⟩

/-- R318: a check followed by others reports its own code when it fails. -/
theorem reportedCode_check {c : Prop} [Decidable c] (o : Option ErrorCode) (e : ErrorCode) :
    reportedCode (if c then o else some e) = if ¬c then errorByte e else reportedCode o := by
  by_cases h : c
  · rw [if_pos h, if_neg (not_not_intro h)]
  · rw [if_neg h, if_pos h, reportedCode, Option.elim]

/-- Settles O41: the checks of `failureOf` stand in R318's order, and an undefined opcode has none before its error. -/
theorem errorPriority : Obligations.ErrorPriority := by
  unfold Obligations.ErrorPriority
  intro s reports
  have report {i : Instr} (hi : i.isCommand = true) {code : Byte}
      (hcode : reportedCode (failureOf s i) = code) : reports i code :=
    hcode ▸ exec_command_errcode hi s
  refine ⟨report rfl ?_, report rfl ?_, report rfl ?_, report rfl ?_, report rfl ?_, fun op hop => ?_,
    report rfl rfl, report rfl rfl, report rfl rfl, report rfl rfl, report rfl rfl, report rfl rfl, report rfl rfl⟩
  · rw [failureOf, reportedCode_check, reportedCode_check]; rfl
  · rw [failureOf, reportedCode_check]; rfl
  · rw [failureOf, reportedCode_check]; rfl
  · rw [failureOf, reportedCode_check, reportedCode_check]
    simp only [Bool.not_eq_true, Nat.not_lt]; rfl
  · have hstage : ¬s.stage.val < 11 ↔ s.stage = 11 := by omega
    rw [failureOf, reportedCode_check, reportedCode_check]
    simp only [Bool.not_eq_true, hstage]; rfl
  · obtain ⟨e, he⟩ := (not_mem_definedOpcodes_iff op).1 hop
    exact ⟨_, exec_busWrite_illegal he s, rfl⟩

/-! ## What a failed command changes (R317, R321) -/

/-- R314: no command's checks find IllegalCommand: it is the error of a byte that names no command. -/
theorem failureOf_ne_illegalCommand (s : State) (i : Instr) : failureOf s i ≠ some .illegalCommand := by
  fun_cases failureOf s i <;> nofun

/-- R310: the codes of the errors other than IllegalCommand. -/
theorem errorByte_mem_of_ne_illegalCommand {e : ErrorCode} (he : e ≠ .illegalCommand) :
    errorByte e ∈ [(0x01 : Byte), 0x02, 0x05, 0x06, 0x07] := by
  cases e with
  | illegalCommand => exact absurd rfl he
  | _ => decide

/-- Settles O42: a command completes, and its effect leaves ERR alone, or it raises the error its checks find. -/
theorem errorsArePrecise : Obligations.ErrorsArePrecise := by
  unfold Obligations.ErrorsArePrecise
  intro i s hi
  cases hf : failureOf s i with
  | none => exact ⟨_, exec_success hi hf, .inl ⟨complete_errcode _, (effectOf_frame s i).err⟩⟩
  | some e =>
    have he : e ≠ .illegalCommand := by
      rintro rfl
      exact failureOf_ne_illegalCommand s i hf
    exact ⟨_, exec_failure hi hf, .inr ⟨rfl, errorByte_mem_of_ne_illegalCommand he⟩⟩

/-- R321: no check reads ERRCODE or ERR, so after an error the same check fails first. -/
theorem failureOf_raiseError (e : ErrorCode) (s : State) (i : Instr) :
    failureOf (raiseError e s) i = failureOf s i := by
  cases i <;> rfl

theorem raiseError_raiseError (e : ErrorCode) (s : State) : raiseError e (raiseError e s) = raiseError e s := rfl

/-- Settles O43: a command that reports an error has raised it, and raises it again with nothing left to change. -/
theorem failedCommandRepeats : Obligations.FailedCommandRepeats := by
  unfold Obligations.FailedCommandRepeats
  intro i s t hi h hcode
  rcases exec_command_cases hi h with ⟨-, rfl⟩ | ⟨e, hf, rfl⟩
  · exact absurd (complete_errcode _) hcode
  · rw [exec_failure hi ((failureOf_raiseError e s i).trans hf), raiseError_raiseError]

/-! ## Independent instances (R334) -/

/-- R334: the platform steps the one machine named, and the rest of the vector stays. -/
theorem platformStep_next {n : Nat} {k : Fin n} {p q : Vector State n} (h : platformStep k p = .next q) :
    ∃ t, step p[k] = .next t ∧ q = p.set k t := by
  unfold platformStep at h
  cases hstep : step p[k] with
  | next t => rw [hstep] at h; cases h; exact ⟨t, rfl, rfl⟩
  | fault r => rw [hstep] at h; cases h
  | refused r => rw [hstep] at h; cases h

/-- Settles O59: the platform puts back the stepped machine only. -/
theorem instancesAreIndependent : Obligations.InstancesAreIndependent := by
  unfold Obligations.InstancesAreIndependent
  intro n k p q h
  obtain ⟨t, ht, rfl⟩ := platformStep_next h
  refine ⟨?_, fun j hj => ?_⟩
  · simpa using ht
  · exact Vector.getElem_set_ne _ _ fun hkj => hj (Fin.ext hkj.symm)

end Sys2Proof.Machine
end

section
/-! PROOFS. The statements about reset and about the steps that run no instruction (70_reset_and_hazards.md). -/

namespace Sys2Proof.Machine

/-! ## Steps that are idle or stop (R9, R100, R352) -/

/-- R9, R351: with nothing presented the block is idle. -/
theorem step_of_pending_nil {s : State} (h : s.pending = []) : step s = .next s := by
  simp only [step, h]

/-- R100, I22: a read word with DATA other than 0 is refused, whatever the state. -/
theorem deliver_nonCanonical {w : Txn} (hw : ¬txnCanonical w = true) (s : State) :
    deliver (.access w) s = .refused (.nonCanonicalRead w) := by
  simp only [deliver, decode_nonCanonical hw]

/-- R352, I18: an access during reset has no transition. -/
theorem deliver_accessInReset (w : Txn) (s : State) : deliver (.accessInReset w) s = .fault .accessDuringReset := rfl

/-- Settles O8: a state with no event is left, and the two stops are those of the oldest event. -/
theorem otherStepsAreIdleOrStop : Obligations.OtherStepsAreIdleOrStop := by
  unfold Obligations.OtherStepsAreIdleOrStop
  intro s
  refine ⟨step_of_pending_nil, fun w rest hp hread hdata => ?_, fun w rest hp => ?_⟩
  · have hw : ¬txnCanonical w = true := by
      rw [txnCanonical_iff, hread]
      simpa using hdata
    rw [step_of_pending hp, deliver_nonCanonical hw]
  · rw [step_of_pending hp, deliver_accessInReset]

/-! ## Reset (R350, R352) -/

/-- R352: an abandoned command leaves what a reset alone leaves. -/
theorem deliver_reset {e : HostEvent} (he : e = .reset ∨ ∃ w, e = .abandoned w) (s : State) :
    deliver e s = .next (resetPin s) := by
  rcases he with rfl | ⟨w, rfl⟩
  · rfl
  · rfl

/-- Settles O56: either event resets the state it is taken off, and RK and the counter of resets are the two values
left open. -/
theorem resetEventRestoresResetState : Obligations.ResetEventRestoresResetState := by
  unfold Obligations.ResetEventRestoresResetState
  intro s e rest hp he
  refine ⟨Config.rkAfterReset s.resets, s.resets + 1, ?_⟩
  rw [step_of_pending hp, deliver_reset he, resetPin_eq]

end Sys2Proof.Machine
end
